-- ==== Sys2Proof/Word.lean ====
section
/-! DEFINITION. The byte, the only bit vector of the link and of the speech bank (09 R149, 08 R133). -/

namespace Sys2Proof

/-- One byte of a frame or of the speech bank. -/
abbrev Byte := BitVec 8

/-- The byte that carries a field's number (11 R172: every field is an unsigned integer). -/
def byteOf (n : Nat) : Byte := BitVec.ofNat 8 n

/-- A two-byte field, least significant byte first (11 R172). -/
def le16 (n : Nat) : List Byte := [byteOf n, byteOf (n / 256)]

/-- A boolean field (11 R172): 1 for on, yes or set, 0 otherwise. -/
def flagByte (b : Bool) : Byte := if b then 1 else 0

/-- A counter that stops at `top` (00 Conventions: "saturating at"). -/
def saturatingAdd (top n k : Nat) : Nat := min top (n + k)

/-- A numeric setting held within its range by its owner (09 R156: clamped, not refused). -/
def clamp (lo hi n : Nat) : Nat := max lo (min hi n)

end Sys2Proof
end

