-- ==== Sys2Proof/Config.lean ====
section
/-! DEFINITION. What the manual fixes once for the part: capacities, times and codes.
The manual leaves no value of an instruction's result open, so no constant here is a free value. -/

namespace Sys2Proof.Config

/-- 01 R11. -/
def ringCapacity : Nat := 16
/-- 01 R12: the lost-event count stays at 255. -/
def lostTop : Nat := 255
/-- 01 R3: the debounce setting's unit is 5 ms, five scans. -/
def debounceStep : Nat := 5
/-- 01: positions 0 to 63. -/
def positions : Nat := 64
/-- 02 R18. -/
def attemptCapacity : Nat := 24
/-- 03 R40. -/
def tableCapacity : Nat := 32
/-- 04 R64. -/
def pairCapacity : Nat := 16
/-- 04 R79: each tally stops at 65 535. -/
def tallyTop : Nat := 65535
/-- 05 R86: the ECHO and VERDICT lists. -/
def shortListCapacity : Nat := 4
/-- 05 R86: the QUEUE list. -/
def queueCapacity : Nat := 16
/-- 05 R83: an utterance holds 1 to 24 items. -/
def itemCapacity : Nat := 24
/-- 06 R112: a fade runs for 32 samples. -/
def fadeLength : Nat := 32
/-- 08 R143: the output code of silence. -/
def silenceCode : Nat := 512
/-- 08 R141: a gap setting's unit of 10 ms is 80 samples. -/
def gapUnit : Nat := 80
/-- 08 R139: a trim's unit of 5 ms is 40 samples. -/
def trimUnit : Nat := 40
/-- 08 R133: the bank's header is 16 bytes. -/
def headerBytes : Nat := 16
/-- 08 R133: a directory entry is five bytes. -/
def entryBytes : Nat := 5
/-- 08 R133: the magic of bytes 0 to 3. -/
def magic : List Byte := [0x5A, 0x53, 0x42, 0x4B]
/-- 08 R133: the serial flash's plain read command. -/
def readOpcode : Byte := 0x03
/-- DESIGN CHOICE (log 8), unsafe: what an unlisted byte of the flash reads as. -/
def erasedByte : Byte := 0xFF
/-- 09 R150. -/
def sync : Byte := 0xC3
/-- 09 R154. -/
def inboxCapacity : Nat := 2
/-- 09 R155. -/
def replyPlaces : Nat := 4
/-- 02 R32 and 05 R103: a notice lists at most 8 entries. -/
def noticeEntries : Nat := 8
/-- 04 R77, 08 R136, 09 R153: a notice's count stays at 255. -/
def countTop : Nat := 255
/-- 07 R124: 100 ms in units of 125 us. -/
def cueUnit : Nat := 800
/-- 08 R145: the 200 ms hold in units of 125 us. -/
def ampHold : Nat := 1600
/-- 09 R152: one unit of 125 us past the 10 ms inter-byte window. -/
def interByteTop : Nat := 81

/-- 11 R178: the kind codes of the 30 command kinds. -/
def commandKinds : List Byte :=
  [0x01, 0x02, 0x03, 0x04, 0x05, 0x10, 0x11, 0x12, 0x13, 0x14, 0x15, 0x16, 0x17, 0x18,
   0x20, 0x21, 0x22, 0x23, 0x24, 0x25, 0x26, 0x27, 0x28, 0x29, 0x2A, 0x2B,
   0x30, 0x31, 0x32, 0x33]
/-- 09 R151: LEN lies in 2 to 250, so a command's payload has at most 248 bytes. -/
def payloadTop : Nat := 248

end Sys2Proof.Config
end

