-- ==== Sys2Proof/Syntax.lean ====
section
/-! DEFINITION. The 61 steps of spec/opcode_table.json, one constructor per row.
The table gives the rows no bits. A host command's row carries the tag and the payload bytes of its frame (09 R150,
11 R175): the payload is raw, because a payload of the wrong size or with an undefined code is a form that the part
answers (09 R156). -/

namespace Sys2Proof

/-- One step of the part (95: "each whole and indivisible"). -/
inductive Instr where
  /-- RESETn is driven low, or power comes on (10 R167). -/
  | pinReset
  /-- RESETn returns high (10 R167). -/
  | resetnRelease
  /-- A 1 ms scan; bit p of `raw` is set when position p reads closed (01 R1). -/
  | scan (raw : BitVec 64)
  /-- A press interval completes at the position (01 R5). -/
  | pressIntervalComplete (position : Nat)
  /-- A release interval completes at the position (01 R6). -/
  | releaseIntervalComplete (position : Nat)
  /-- Press intervals complete in the wake watch (10 R169). -/
  | wakingPress
  /-- The intake takes a PASS head (02 R21). -/
  | takePass
  /-- The intake takes and discards a head (02 R22). -/
  | discardHead
  /-- The intake takes a LETTER head (02 R24). -/
  | takeLetter
  /-- The intake takes a RUBOUT head (02 R28). -/
  | takeRubout
  /-- The intake takes a GO head (02 R29). -/
  | takeGo
  /-- The intake takes a SPACE head (02 R29). -/
  | takeSpace
  /-- The intake takes a HEAR head (02 R30). -/
  | takeHear
  /-- The intake takes a HINT head (02 R31). -/
  | takeHint
  /-- The Judge completes (04 R74). -/
  | judgingComplete
  /-- The arbiter chooses and starts an utterance (06 R108). -/
  | utteranceStart
  /-- The samples of a stage have run out (08 R142). -/
  | stageEnd
  /-- The fade's 32 samples have been given (06 R112). -/
  | fadeEnd
  /-- 100 ms of counting time have gathered (07 R124). -/
  | cueDecrement
  /-- The remaining count reaches 0 (07 R128). -/
  | cueExpiry
  /-- 200 ms of HOLDING have passed (08 R145). -/
  | ampHoldEnd
  /-- The byte that completes or rejects a frame arrives (09 R152). -/
  | frameReceived (byte : Byte)
  /-- More than 10 ms have passed inside a frame (09 R152). -/
  | interByteTimeout
  /-- The transmitter begins the oldest waiting frame (09 R159). -/
  | transmitBegin
  /-- A frame's CHECK byte has been sent (09 R159). -/
  | transmitComplete
  /-- A taken frame whose kind code names no command (09 R156). -/
  | unknownCommand (kind tag : Byte) (payload : List Byte)
  /-- 10 R171. -/
  | status (tag : Byte) (payload : List Byte)
  /-- 10 R165. -/
  | begin (tag : Byte) (payload : List Byte)
  /-- The bank check of BEGIN completes (08 R134). -/
  | bankCheckComplete
  /-- 10 R166. -/
  | reset (tag : Byte) (payload : List Byte)
  /-- 10 R168. -/
  | doze (tag : Byte) (payload : List Byte)
  /-- 10 R170. -/
  | wake (tag : Byte) (payload : List Byte)
  /-- 01 R10. -/
  | setKeys (tag : Byte) (payload : List Byte)
  /-- 02 R36. -/
  | setIntake (tag : Byte) (payload : List Byte)
  /-- 08 R147. -/
  | setLetters (tag : Byte) (payload : List Byte)
  /-- 05 R95. -/
  | setPhrases (tag : Byte) (payload : List Byte)
  /-- 04 R65. -/
  | setPairs (tag : Byte) (payload : List Byte)
  /-- 06 R119. -/
  | setSources (tag : Byte) (payload : List Byte)
  /-- 07 R131. -/
  | setCue (tag : Byte) (payload : List Byte)
  /-- 04 R78. -/
  | setJudge (tag : Byte) (payload : List Byte)
  /-- 08 R146. -/
  | setVoice (tag : Byte) (payload : List Byte)
  /-- 03 R42, R43. -/
  | loadWords (tag : Byte) (payload : List Byte)
  /-- 03 R44. -/
  | clearWords (tag : Byte) (payload : List Byte)
  /-- 03 R46. -/
  | start (tag : Byte) (payload : List Byte)
  /-- 03 R47. -/
  | pause (tag : Byte) (payload : List Byte)
  /-- 03 R48. -/
  | resume (tag : Byte) (payload : List Byte)
  /-- 03 R50. -/
  | stop (tag : Byte) (payload : List Byte)
  /-- 03 R51. -/
  | goto (tag : Byte) (payload : List Byte)
  /-- RELEASE with target LETTER (02 R35). -/
  | releaseLetter (tag : Byte) (payload : List Byte)
  /-- RELEASE with target PASS (02 R35). -/
  | releasePass (tag : Byte) (payload : List Byte)
  /-- RELEASE with target WORD (03 R58). -/
  | releaseWord (tag : Byte) (payload : List Byte)
  /-- 02 R37. -/
  | getAttempt (tag : Byte) (payload : List Byte)
  /-- 03 R60. -/
  | getResults (tag : Byte) (payload : List Byte)
  /-- 04 R80. -/
  | setWindow (tag : Byte) (payload : List Byte)
  /-- 04 R81. -/
  | getTally (tag : Byte) (payload : List Byte)
  /-- 05 R98. -/
  | say (tag : Byte) (payload : List Byte)
  /-- 05 R99. -/
  | sayNow (tag : Byte) (payload : List Byte)
  /-- 05 R101. -/
  | cut (tag : Byte) (payload : List Byte)
  /-- 05 R102. -/
  | flush (tag : Byte) (payload : List Byte)
  /-- A byte completes on RXD (09 R152). -/
  | receivedByte (byte : Byte)
  /-- One sample period of 125 us (08 R143, R144). -/
  | samplePeriod
  deriving DecidableEq, Repr

end Sys2Proof
end

