-- ==== Sys2Proof/WellFormed.lean ====
section
/-! DEFINITION. Which terms of Instr stand for something that can reach the part: positions of the matrix (01), payloads
that fit a frame (09 R151), an unknown kind that is unknown (09 R156), and RELEASE rows that do not carry another row's
target (11 R172). -/

namespace Sys2Proof

/-- A payload that fits a frame (09 R151). -/
def payloadFits (p : List Byte) : Bool := decide (p.length ≤ Config.payloadTop)

/-- A position of the matrix (01: row x 8 + column). -/
def positionFits (p : Nat) : Bool := decide (p < Config.positions)

/-- The kind code names a command (09 R156). -/
def knownKind (k : Byte) : Bool := Config.commandKinds.contains k

/-- The RELEASE payload that names a target (11 R172: 0 LETTER, 1 PASS, 2 WORD; 11 R175: one byte). -/
def releaseTarget (p : List Byte) : Option Nat :=
  match p with
  | [b] => if b.toNat ≤ 2 then some b.toNat else none
  | _ => none

/-- A RELEASE row takes the frames that name its own target, and the malformed ones, which name none (log 11). -/
def releaseRowFits (target : Nat) (p : List Byte) : Bool :=
  match releaseTarget p with
  | some t => decide (t = target)
  | none => true

/-- Well-formedness of one command term. -/
def Instr.wf : Instr → Bool
  | .pinReset => true
  | .resetnRelease => true
  | .scan _ => true
  | .pressIntervalComplete p => positionFits p
  | .releaseIntervalComplete p => positionFits p
  | .wakingPress => true
  | .takePass => true
  | .discardHead => true
  | .takeLetter => true
  | .takeRubout => true
  | .takeGo => true
  | .takeSpace => true
  | .takeHear => true
  | .takeHint => true
  | .judgingComplete => true
  | .utteranceStart => true
  | .stageEnd => true
  | .fadeEnd => true
  | .cueDecrement => true
  | .cueExpiry => true
  | .ampHoldEnd => true
  | .frameReceived _ => true
  | .interByteTimeout => true
  | .transmitBegin => true
  | .transmitComplete => true
  | .unknownCommand k _ p => !knownKind k && payloadFits p
  | .status _ p => payloadFits p
  | .begin _ p => payloadFits p
  | .bankCheckComplete => true
  | .reset _ p => payloadFits p
  | .doze _ p => payloadFits p
  | .wake _ p => payloadFits p
  | .setKeys _ p => payloadFits p
  | .setIntake _ p => payloadFits p
  | .setLetters _ p => payloadFits p
  | .setPhrases _ p => payloadFits p
  | .setPairs _ p => payloadFits p
  | .setSources _ p => payloadFits p
  | .setCue _ p => payloadFits p
  | .setJudge _ p => payloadFits p
  | .setVoice _ p => payloadFits p
  | .loadWords _ p => payloadFits p
  | .clearWords _ p => payloadFits p
  | .start _ p => payloadFits p
  | .pause _ p => payloadFits p
  | .resume _ p => payloadFits p
  | .stop _ p => payloadFits p
  | .goto _ p => payloadFits p
  | .releaseLetter _ p => releaseRowFits 0 p && payloadFits p
  | .releasePass _ p => releaseRowFits 1 p && payloadFits p
  | .releaseWord _ p => releaseRowFits 2 p && payloadFits p
  | .getAttempt _ p => payloadFits p
  | .getResults _ p => payloadFits p
  | .setWindow _ p => payloadFits p
  | .getTally _ p => payloadFits p
  | .say _ p => payloadFits p
  | .sayNow _ p => payloadFits p
  | .cut _ p => payloadFits p
  | .flush _ p => payloadFits p
  | .receivedByte _ => true
  | .samplePeriod => true

end Sys2Proof
end

