-- ==== Sys2Proof/Decode.lean ====
section
/-! DEFINITION. From words and frames to commands. spec/opcode_table.json gives no row any bits, so no table word spells a
command. What the manual does encode is the command frame on the link: SYNC, LEN, body, CHECK (09 R150) with the kind codes
of 11 R178; `Instr.hostFrame` gives a command's kind, tag and payload and `Instr.ofFrame` the row that takes such a frame. -/

namespace Sys2Proof

/-- The command that a table word spells: the table gives bits to no row. -/
def decodeTableWord (_nbits _w : Nat) : Option Instr := none

/-- The kind code, the tag and the payload of the frame that a command row takes (11 R178); none for the rows that are
not host commands. -/
def Instr.hostFrame : Instr → Option (Byte × Byte × List Byte)
  | .pinReset => none
  | .resetnRelease => none
  | .scan _ => none
  | .pressIntervalComplete _ => none
  | .releaseIntervalComplete _ => none
  | .wakingPress => none
  | .takePass => none
  | .discardHead => none
  | .takeLetter => none
  | .takeRubout => none
  | .takeGo => none
  | .takeSpace => none
  | .takeHear => none
  | .takeHint => none
  | .judgingComplete => none
  | .utteranceStart => none
  | .stageEnd => none
  | .fadeEnd => none
  | .cueDecrement => none
  | .cueExpiry => none
  | .ampHoldEnd => none
  | .frameReceived _ => none
  | .interByteTimeout => none
  | .transmitBegin => none
  | .transmitComplete => none
  | .unknownCommand k t p => some (k, t, p)
  | .status t p => some (0x01, t, p)
  | .begin t p => some (0x02, t, p)
  | .bankCheckComplete => none
  | .reset t p => some (0x03, t, p)
  | .doze t p => some (0x04, t, p)
  | .wake t p => some (0x05, t, p)
  | .setKeys t p => some (0x10, t, p)
  | .setIntake t p => some (0x11, t, p)
  | .setLetters t p => some (0x12, t, p)
  | .setPhrases t p => some (0x13, t, p)
  | .setPairs t p => some (0x14, t, p)
  | .setSources t p => some (0x15, t, p)
  | .setCue t p => some (0x16, t, p)
  | .setJudge t p => some (0x17, t, p)
  | .setVoice t p => some (0x18, t, p)
  | .loadWords t p => some (0x20, t, p)
  | .clearWords t p => some (0x21, t, p)
  | .start t p => some (0x22, t, p)
  | .pause t p => some (0x23, t, p)
  | .resume t p => some (0x24, t, p)
  | .stop t p => some (0x25, t, p)
  | .goto t p => some (0x26, t, p)
  | .releaseLetter t p => some (0x27, t, p)
  | .releasePass t p => some (0x27, t, p)
  | .releaseWord t p => some (0x27, t, p)
  | .getAttempt t p => some (0x28, t, p)
  | .getResults t p => some (0x29, t, p)
  | .setWindow t p => some (0x2A, t, p)
  | .getTally t p => some (0x2B, t, p)
  | .say t p => some (0x30, t, p)
  | .sayNow t p => some (0x31, t, p)
  | .cut t p => some (0x32, t, p)
  | .flush t p => some (0x33, t, p)
  | .receivedByte _ => none
  | .samplePeriod => none

/-- The RELEASE row that takes a frame with this payload (11 R172, R175); a malformed one goes to RELEASE_LETTER (log 11). -/
def releaseRow (t : Byte) (p : List Byte) : Instr :=
  match releaseTarget p with
  | some 1 => .releasePass t p
  | some 2 => .releaseWord t p
  | _ => .releaseLetter t p

/-- The row that takes a frame (11 R178; 09 R156: UNKNOWN for every other kind code). -/
def Instr.ofFrame (k t : Byte) (p : List Byte) : Instr :=
  match k.toNat with
  | 0x01 => .status t p
  | 0x02 => .begin t p
  | 0x03 => .reset t p
  | 0x04 => .doze t p
  | 0x05 => .wake t p
  | 0x10 => .setKeys t p
  | 0x11 => .setIntake t p
  | 0x12 => .setLetters t p
  | 0x13 => .setPhrases t p
  | 0x14 => .setPairs t p
  | 0x15 => .setSources t p
  | 0x16 => .setCue t p
  | 0x17 => .setJudge t p
  | 0x18 => .setVoice t p
  | 0x20 => .loadWords t p
  | 0x21 => .clearWords t p
  | 0x22 => .start t p
  | 0x23 => .pause t p
  | 0x24 => .resume t p
  | 0x25 => .stop t p
  | 0x26 => .goto t p
  | 0x27 => releaseRow t p
  | 0x28 => .getAttempt t p
  | 0x29 => .getResults t p
  | 0x2A => .setWindow t p
  | 0x2B => .getTally t p
  | 0x30 => .say t p
  | 0x31 => .sayNow t p
  | 0x32 => .cut t p
  | 0x33 => .flush t p
  | _ => .unknownCommand k t p

/-- The sum of bytes modulo 256 (09 R151). -/
def byteSum (l : List Byte) : Byte := l.foldr (· + ·) 0

/-- CHECK: 256 minus the sum of LEN and the body bytes, modulo 256 (09 R151). -/
def checkByte (body : List Byte) : Byte := 0 - (byteOf body.length + byteSum body)

/-- A frame on the wire (09 R150). -/
def wireFrame (body : List Byte) : List Byte :=
  Config.sync :: byteOf body.length :: body ++ [checkByte body]

/-- The steps by which a frame's bytes reach the part: RECEIVED_BYTE for each byte but the last, and FRAME_RECEIVED for
CHECK (09 R152). -/
def receiveSteps (body : List Byte) : List Instr :=
  (Config.sync :: byteOf body.length :: body).map Instr.receivedByte ++ [.frameReceived (checkByte body)]

end Sys2Proof
end

