-- ==== Sys2Proof/Machine/State.lean ====
section
/-! DEFINITION. The state of the ZU2140: one sub-structure for each of the twelve blocks of 00, the RESETn pin and the
queue of waiting commands. Everything is plain data. What the spec derives from other state (the intake state, the timer
state, the cue lock, ATTN) is computed in Machine/Flags.lean and not stored twice. -/

namespace Sys2Proof.Machine

/-! ### Operating State Control -/

/-- 10 R164. -/
inductive OpState where
  | setup | ready | doze
  deriving DecidableEq, Repr

/-! ### Key Scanner and Key Ring -/

/-- 01 R4. -/
inductive Role where
  | none | letter | space | go | rubout | hear | hint | pass
  deriving DecidableEq, Repr

/-- The edge of a key event (01 "Key events"). -/
inductive Edge where
  | press | release
  deriving DecidableEq, Repr

/-- 01 R9. -/
inductive PassEdge where
  | press | release | both
  deriving DecidableEq, Repr

/-- 01 R4: what the host assigned to one position. -/
structure KeyRecord where
  role : Role
  symbol : Nat
  deriving DecidableEq, Repr

/-- 01 "Key events": the four fields, unchanged from creation. -/
structure KeyEvent where
  position : Nat
  role : Role
  symbol : Nat
  edge : Edge
  deriving DecidableEq, Repr

/-- 01 R7. -/
structure HeldEntry where
  position : Nat
  quiet : Bool
  deriving DecidableEq, Repr

/-- 01 R2: a debounce interval in progress. `age` counts the scans since it began, one each 1 ms, and `due` says that it
completed at the last scan (01 R3). Whether it is a press or a release follows from the held set. -/
structure Interval where
  position : Nat
  age : Nat
  due : Bool
  deriving DecidableEq, Repr

/-- 01 R1 to R9. A position's debounced state is down exactly when `held` has an entry for it (01 R7). -/
structure Scanner where
  keyMap : List KeyRecord
  debounce : Nat
  passEdge : PassEdge
  held : List HeldEntry
  intervals : List Interval
  deriving DecidableEq, Repr

/-- 01 R11, R12. -/
structure Ring where
  events : List KeyEvent
  lost : Nat
  deriving DecidableEq, Repr

/-! ### Key Intake -/

/-- 02 R36. -/
inductive CheckMode where
  | free | guided
  deriving DecidableEq, Repr

/-- 02 R36. -/
structure IntakeSettings where
  eachHold : Bool
  endHold : Bool
  passHold : Bool
  listenFirst : Bool
  spaceEndsWord : Bool
  checkMode : CheckMode
  deriving DecidableEq, Repr

/-- 02 R18, R19. A hold is open when its flag is set. -/
structure Intake where
  settings : IntakeSettings
  attempt : List Nat
  attemptFull : Bool
  letterHold : Bool
  passHold : Bool
  deriving DecidableEq, Repr

/-- 02 R19: derived, see `State.intakeState`. -/
inductive IntakeState where
  | idle | taking | heldLetter | heldPass
  deriving DecidableEq, Repr

/-! ### Word Cycle Controller -/

/-- 03 R39. -/
structure WordRecord where
  spelling : List Nat
  wordClip : Nat
  sentenceClip : Nat
  hintsAllowed : Nat
  deriving DecidableEq, Repr

/-- 03 R41; `opened` is the manual's OPEN. -/
inductive ResultState where
  | unseen | opened | exact | missed | skipped
  deriving DecidableEq, Repr

/-- 03 R41. -/
structure ResultRecord where
  state : ResultState
  tries : Nat
  best : Nat
  last : Nat
  hints : Nat
  refusals : Nat
  cues : Nat
  deriving DecidableEq, Repr

/-- 03 "Lesson states". -/
inductive LessonState where
  | empty | loaded | running | paused | finished
  deriving DecidableEq, Repr

/-- 03 "Word phases". -/
inductive Phase where
  | none | prompting | answering | judging | feedback | held
  deriving DecidableEq, Repr

/-- 03 R40, R41, R55. -/
structure Cycle where
  words : List WordRecord
  lesson : LessonState
  index : Nat
  phase : Phase
  results : List ResultRecord
  triesPerWord : Nat
  deriving DecidableEq, Repr

/-! ### Judge -/

/-- 04 R66. -/
inductive MarkRule where
  | strict | skip
  deriving DecidableEq, Repr

/-- 04 R71. -/
inductive Verdict where
  | exact | close | wrong
  deriving DecidableEq, Repr

/-- 04 R69. -/
inductive Mark where
  | right | swapped | near | wrong | missing | passed
  deriving DecidableEq, Repr

/-- 04 R63: what the Judge holds while working. -/
structure JudgingRecord where
  wordIndex : Nat
  tryNumber : Nat
  attempt : List Nat
  target : List Nat
  rule : MarkRule
  pairs : List (Nat × Nat)
  deriving DecidableEq, Repr

/-- 04 R75: one judgement. -/
structure Judgement where
  wordIndex : Nat
  tryNumber : Nat
  attempt : List Nat
  rule : MarkRule
  marks : List Mark
  extra : Nat
  letterErrors : Nat
  distance : Nat
  score : Nat
  verdict : Verdict
  deriving DecidableEq, Repr

/-- 04 R63, R64, R75, R78, R79. -/
structure Judge where
  working : Option JudgingRecord
  pairs : List (Nat × Nat)
  closeThreshold : Nat
  rule : MarkRule
  windowStart : Nat
  windowLength : Nat
  letterErrors : Nat
  attemptsJudged : Nat
  exactCount : Nat
  last : Option Judgement
  deriving DecidableEq, Repr

/-! ### Utterance Sources -/

/-- 05 R86, in the tie order of 06 R108. -/
inductive Source where
  | now | echo | verdict | word | cue | queue
  deriving DecidableEq, Repr

/-- 05 R83. -/
inductive UttKind where
  | host | echo | oops | hint | feedback | spellback | wordPrompt | hearPrompt | cuePrompt
  deriving DecidableEq, Repr

/-- 05 R84. -/
inductive Item where
  | clip (n : Nat)
  | letter (s : Nat)
  | name (s : Nat)
  | word
  | sentence
  | gap (n : Nat)
  deriving DecidableEq, Repr

/-- 05 R83. -/
structure Utterance where
  source : Source
  kind : UttKind
  tag : Byte
  notify : Bool
  items : List Item
  resume : Nat
  deriving DecidableEq, Repr

/-- 05 R86: the pending place (a list; a slot is a list of at most one) and the backup slot of one source. -/
structure Place where
  pending : List Utterance
  backup : Option Utterance
  deriving DecidableEq, Repr

/-- One entry for each of the six sources. -/
structure PerSource (α : Type) where
  now : α
  echo : α
  verdict : α
  word : α
  cue : α
  queue : α
  deriving DecidableEq, Repr

/-- 05 R94. -/
inductive Phrase where
  | spell | praise | almost | retry | spelled | cue | noHint | oops
  deriving DecidableEq, Repr

/-- 05 R86, R94: `phrases` holds the eight slots in slot order. -/
structure Sources where
  places : PerSource Place
  phrases : List Nat
  deriving DecidableEq, Repr

/-- 05 R88. -/
inductive EndKind where
  | done | cut | flushed | stopped
  deriving DecidableEq, Repr

/-! ### Utterance Arbiter and the item cursor -/

/-- 06 R106. -/
inductive FadeKind where
  | restore | discardCut | discardStopped
  deriving DecidableEq, Repr

/-- 06 R106: the fade kind and the fade progress exist only while FADING. -/
inductive RunState where
  | playing
  | fading (kind : FadeKind) (progress : Nat)
  deriving DecidableEq, Repr

/-- 08 R142. -/
inductive Stage where
  | automaticGap | clip | gapItem
  deriving DecidableEq, Repr

/-- 08 R142: the class of a previous item. -/
inductive ItemClass where
  | letterItem | otherClip | gapItem
  deriving DecidableEq, Repr

/-- 08 R142. `clipLength` is what the resolved clip will sound after its automatic gap: the item keeps its resolution
through the gap (08 R138). -/
structure Cursor where
  index : Nat
  stage : Stage
  samplesLeft : Nat
  bankPosition : Nat
  clipLength : Nat
  previous : Option ItemClass
  deriving DecidableEq, Repr

/-- 06 R106: the running place's utterance. -/
structure Running where
  utterance : Utterance
  state : RunState
  cursor : Cursor
  deriving DecidableEq, Repr

/-- 06 R118. -/
structure SourceSetting where
  level : Nat
  cutIn : Bool
  deriving DecidableEq, Repr

/-- 05 R89. -/
inductive EchoPolicy where
  | queue | latest | snap
  deriving DecidableEq, Repr

/-- 06 R106, R118; 05 R89, R92. -/
structure Arbiter where
  running : Option Running
  settings : PerSource SourceSetting
  echoPolicy : EchoPolicy
  lowMark : Nat
  deriving DecidableEq, Repr

/-! ### Cue Timer -/

/-- 07 R123. `running` says that the timer is not STOPPED; COUNTING against FROZEN is derived (07 R124). `part` is the
part of a 100 ms unit gathered, in units of 125 us. -/
structure CueTimer where
  running : Bool
  remaining : Nat
  part : Nat
  stretch : Nat
  reload : Nat
  boundary : Nat
  limit : Nat
  deriving DecidableEq, Repr

/-- 07 R123: derived, see `State.timerState`. -/
inductive TimerState where
  | stopped | counting | frozen
  deriving DecidableEq, Repr

/-! ### Voice Engine and Bank Reader -/

/-- 08 R137. -/
inductive MapMode where
  | name | sound | fixed | silent
  deriving DecidableEq, Repr

/-- 08 R137. -/
structure MapEntry where
  mode : MapMode
  nameClip : Nat
  soundClip : Nat
  fixedClip : Nat
  trim : Nat
  deriving DecidableEq, Repr

/-- 08 R137. -/
inductive EchoStyle where
  | names | sounds | perLetter
  deriving DecidableEq, Repr

/-- 08 R145; `holding` counts units of 125 us. -/
inductive Amp where
  | inactive | active
  | holding (elapsed : Nat)
  deriving DecidableEq, Repr

/-- 08 R137, R141, R143, R145: `letterMap` holds the entries of symbols 1 to 28 in order. -/
structure Voice where
  letterMap : List MapEntry
  echoStyle : EchoStyle
  gain : Nat
  itemGap : Nat
  leadGap : Nat
  letterGap : Nat
  output : Nat
  amp : Amp
  deriving DecidableEq, Repr

/-- 08 R133, R134. `flash` is the external serial flash as cells with rising addresses, none of them `Config.erasedByte`;
`spi` is the last read command sent to it. -/
structure Bank where
  valid : Bool
  clipCount : Nat
  size : Nat
  flash : List Host.Cell
  spi : List Byte
  deriving DecidableEq, Repr

/-! ### Link Port -/

/-- 09 R152. -/
inductive RxState where
  | hunt | length | body | check
  deriving DecidableEq, Repr

/-- 09 R152. `timer` is the inter-byte timer in units of 125 us; it does not run in HUNT. -/
structure Assembler where
  state : RxState
  body : List Byte
  sum : Byte
  expected : Nat
  timer : Nat
  deriving DecidableEq, Repr

/-- The body of a command frame (09 R150). -/
structure HostFrame where
  kind : Byte
  tag : Byte
  payload : List Byte
  deriving DecidableEq, Repr

/-- 11 R179. -/
inductive ResultCode where
  | ok | unknown | length | range | state | full | occupied | notHeld | overflow | bankBad
  deriving DecidableEq, Repr

/-- 09 R157: `kind` is the reply's own kind code, `payload` what follows the result code. -/
structure Reply where
  kind : Byte
  tag : Byte
  result : ResultCode
  payload : List Byte
  deriving DecidableEq, Repr

/-- 10 R167. -/
inductive ResetCause where
  | pin | command
  deriving DecidableEq, Repr

/-- 09 R153. -/
inductive LinkCause where
  | len | check | timeout
  deriving DecidableEq, Repr

/-- 02 R32. -/
structure KeyPassEntry where
  position : Nat
  symbol : Nat
  edge : Edge
  deriving DecidableEq, Repr

/-- 05 R103. -/
structure SaidEntry where
  tag : Byte
  ended : EndKind
  deriving DecidableEq, Repr

/-- 04 R76: what a WORD_JUDGED notice says of one judgement. -/
structure JudgedReport where
  wordIndex : Nat
  tryNumber : Nat
  score : Nat
  verdict : Verdict
  distance : Nat
  letterErrors : Nat
  extra : Nat
  marks : List Mark
  deriving DecidableEq, Repr

/-- The twelve notice kinds (09 R160). -/
inductive NoticeKind where
  | resetDone | woke | keyPass | ringOverrun | attemptFull | wordJudged
  | lessonEnd | childIdle | queueLow | said | fault | linkError
  deriving DecidableEq, Repr

/-- A notice with its content (11 R177). -/
inductive Notice where
  | resetDone (cause : ResetCause)
  | woke (position : Nat)
  | keyPass (more : Bool) (entries : List KeyPassEntry)
  | ringOverrun (count : Nat)
  | attemptFull (word : Nat)
  | wordJudged (report : JudgedReport) (count : Nat)
  | lessonEnd (exact missed skipped tries : Nat)
  | childIdle (word : Nat)
  | queueLow (level : Nat)
  | said (more : Bool) (entries : List SaidEntry)
  | fault (clip : Nat) (count : Nat)
  | linkError (cause : LinkCause) (count : Nat)
  deriving DecidableEq, Repr

/-- A frame the part sends (09 R159). -/
inductive OutFrame where
  | reply (r : Reply)
  | notice (n : Notice)
  deriving DecidableEq, Repr

/-- 09 R152 to R160. `outbox` holds the waiting frames in the order they entered, `transmitting` the frame on the wire,
`held` the held notice, and `begun` the tag of a BEGIN that is being carried out (09 R155). -/
structure Link where
  assembler : Assembler
  inbox : List HostFrame
  outbox : List OutFrame
  transmitting : Option OutFrame
  held : Option Notice
  begun : Option Byte
  deriving DecidableEq, Repr

/-! ### The whole -/

/-- The state of the part. `pending` is the model's own queue of commands. -/
structure State where
  resetLow : Bool
  op : OpState
  scanner : Scanner
  ring : Ring
  intake : Intake
  cycle : Cycle
  judge : Judge
  sources : Sources
  arbiter : Arbiter
  cue : CueTimer
  voice : Voice
  bank : Bank
  link : Link
  pending : List Instr
  deriving DecidableEq, Repr

/-- Why the machine stops. The spec describes no stop of the part, so there is no constructor. -/
inductive Fault where
  deriving DecidableEq, Repr

/-- Why a command has no meaning. -/
inductive Refusal where
  /-- Raised by an arm of exec whose command is not modelled; no arm raises it. Safe: the machine stops. -/
  | notModelled (mnemonic : String)
  deriving DecidableEq, Repr

/-! ### Reset values -/

/-- 01 R15, R16. -/
def Scanner.pinReset : Scanner where
  keyMap := List.replicate 64 ⟨.pass, 0⟩
  debounce := 4
  passEdge := .press
  held := []
  intervals := []

/-- 01 R15. -/
def Ring.pinReset : Ring := ⟨[], 0⟩

/-- 02 R36, R38. -/
def Intake.pinReset : Intake where
  settings := ⟨false, false, false, false, false, .free⟩
  attempt := []
  attemptFull := false
  letterHold := false
  passHold := false

/-- 03 R41: UNSEEN with every count and score 0. -/
def ResultRecord.clear : ResultRecord := ⟨.unseen, 0, 0, 0, 0, 0, 0⟩

/-- 03 R41: all 32 results records reset. -/
def clearResults : List ResultRecord := List.replicate 32 ResultRecord.clear

/-- 03 R61. -/
def Cycle.pinReset : Cycle := ⟨[], .empty, 0, .none, clearResults, 3⟩

/-- 04 R82. -/
def Judge.pinReset : Judge := ⟨none, [], 75, .strict, 0, 32, 0, 0, 0, none⟩

/-- 05 R105: every pending place and backup slot empty. -/
def emptyPlaces : PerSource Place :=
  ⟨⟨[], none⟩, ⟨[], none⟩, ⟨[], none⟩, ⟨[], none⟩, ⟨[], none⟩, ⟨[], none⟩⟩

/-- 05 R94, R105. -/
def Sources.pinReset : Sources := ⟨emptyPlaces, List.replicate 8 0⟩

/-- 06 R118, R121. -/
def Arbiter.pinReset : Arbiter where
  running := none
  settings := ⟨⟨0, true⟩, ⟨1, false⟩, ⟨1, false⟩, ⟨2, false⟩, ⟨2, false⟩, ⟨3, false⟩⟩
  echoPolicy := .queue
  lowMark := 0

/-- 07 R132. -/
def CueTimer.pinReset : CueTimer := ⟨false, 0, 0, 0, 80, 20, 2⟩

/-- 08 R148. -/
def Voice.pinReset : Voice where
  letterMap := List.replicate 28 ⟨.name, 0, 0, 0, 0⟩
  echoStyle := .names
  gain := 32
  itemGap := 6
  leadGap := 30
  letterGap := 15
  output := 512
  amp := .inactive

/-- 09 R152: HUNT with nothing kept and the timer stopped. -/
def Assembler.idle : Assembler := ⟨.hunt, [], 0, 0, 0⟩

/-- 09 R163: everything empty. -/
def Link.pinReset : Link := ⟨Assembler.idle, [], [], none, none, none⟩

/-- The part after RESETn has returned high (10 R167): every block at its pin-reset values, SETUP, and RESET_DONE with
cause PIN waiting in the outbox. DEDUCED (log 1). -/
def State.reset : State where
  resetLow := false
  op := .setup
  scanner := Scanner.pinReset
  ring := Ring.pinReset
  intake := Intake.pinReset
  cycle := Cycle.pinReset
  judge := Judge.pinReset
  sources := Sources.pinReset
  arbiter := Arbiter.pinReset
  cue := CueTimer.pinReset
  voice := Voice.pinReset
  bank := ⟨false, 0, 0, [], []⟩
  link := { Link.pinReset with outbox := [.notice (.resetDone .pin)] }
  pending := []

end Sys2Proof.Machine
end

