-- ==== Sys2Proof/Machine/Alignment.lean ====
section
/-! DEFINITION. The Judge's arithmetic (04 R64, R66 to R71): reducing by the mark rule, the distance table, the traceback and
its marks, the score and the verdict. Lists are read from position 1 in the manual and from index 0 here. -/

namespace Sys2Proof.Machine

/-- Two letters are paired when some pair of the list holds both, in either order (04 R64). -/
def paired (pairs : List (Nat × Nat)) (a b : Nat) : Bool :=
  pairs.any fun p => decide ((p.1 = a ∧ p.2 = b) ∨ (p.1 = b ∧ p.2 = a))

/-- A mark: the apostrophe 27 or the hyphen 28 (00 Conventions). -/
def isMark (s : Nat) : Bool := decide (s = 27 ∨ s = 28)

/-- Reducing by the mark rule (04 R66): SKIP removes the marks and keeps the order. -/
def reduce (rule : MarkRule) (l : List Nat) : List Nat :=
  match rule with
  | .strict => l
  | .skip => l.filter fun s => !isMark s

/-- Symbol `i` of a list, counted from 1 (04 R67). -/
def symbolAt (l : List Nat) (i : Nat) : Nat := l.getD (i - 1) 0

/-- The cost of setting symbol a against target symbol b (04 R67): match 0, near 1, wrong 2. -/
def stepCost (pairs : List (Nat × Nat)) (a b : Nat) : Nat :=
  if a = b then 0 else if paired pairs a b then 1 else 2

/-- The swap condition at cell (i, j) (04 R67). -/
def swapHere (A T : List Nat) (i j : Nat) : Bool :=
  decide (2 ≤ i ∧ 2 ≤ j ∧ symbolAt A i = symbolAt T (j - 1) ∧ symbolAt A (i - 1) = symbolAt T j ∧
    symbolAt A i ≠ symbolAt A (i - 1))

/-- The entry of a table at row i, column j. -/
def tableAt (t : List (List Nat)) (i j : Nat) : Nat := (t.getD i []).getD j 0

/-- The value of cell (i, j), both at least 1 (04 R67), from the rows above and the row so far. -/
def cellValue (pairs : List (Nat × Nat)) (A T : List Nat) (above : List (List Nat)) (row : List Nat) (i j : Nat) : Nat :=
  let diag := tableAt above (i - 1) (j - 1) + stepCost pairs (symbolAt A i) (symbolAt T j)
  let extra := tableAt above (i - 1) j + 2
  let missing := row.getD (j - 1) 0 + 2
  let least := min diag (min extra missing)
  if swapHere A T i j then min least (tableAt above (i - 2) (j - 2) + 1) else least

/-- Row i of the table over the first `n` target symbols, from the rows above it; its first entry is 2i (04 R67). -/
def tableRow (pairs : List (Nat × Nat)) (A T : List Nat) (above : List (List Nat)) (i : Nat) : Nat → List Nat
  | 0 => [2 * i]
  | n + 1 =>
    let row := tableRow pairs A T above i n
    row ++ [cellValue pairs A T above row i (n + 1)]

/-- The first row: D(0, j) = 2j (04 R67). -/
def firstRow : Nat → List Nat
  | 0 => [0]
  | n + 1 => firstRow n ++ [2 * (n + 1)]

/-- The rows 0 to `m` of the distance table (04 R67). -/
def distanceTable (pairs : List (Nat × Nat)) (A T : List Nat) : Nat → List (List Nat)
  | 0 => [firstRow T.length]
  | m + 1 =>
    let above := distanceTable pairs A T m
    above ++ [tableRow pairs A T above (m + 1) T.length]

/-- The whole table of an attempt against a target, both reduced. -/
def fullTable (pairs : List (Nat × Nat)) (A T : List Nat) : List (List Nat) := distanceTable pairs A T A.length

/-- The distance d = D(m', n') (04 R67). -/
def distance (pairs : List (Nat × Nat)) (A T : List Nat) : Nat := tableAt (fullTable pairs A T) A.length T.length

/-- The steps of the traceback (04 R68). -/
inductive TraceStep where
  | matched | swap | near | wrong | missing | extra
  deriving DecidableEq, Repr

/-- The first step of the list of 04 R68 whose condition holds at cell (i, j); none at (0, 0). -/
def traceStep (pairs : List (Nat × Nat)) (A T : List Nat) (t : List (List Nat)) (i j : Nat) : Option TraceStep :=
  let d := tableAt t i j
  let a := symbolAt A i
  let b := symbolAt T j
  let inner := decide (1 ≤ i ∧ 1 ≤ j)
  if inner && decide (a = b) && decide (d = tableAt t (i - 1) (j - 1)) then some .matched
  else if swapHere A T i j && decide (d = tableAt t (i - 2) (j - 2) + 1) then some .swap
  else if inner && decide (a ≠ b) && paired pairs a b && decide (d = tableAt t (i - 1) (j - 1) + 1) then some .near
  else if inner && decide (a ≠ b) && !paired pairs a b && decide (d = tableAt t (i - 1) (j - 1) + 2) then some .wrong
  else if decide (1 ≤ j) && decide (d = tableAt t i (j - 1) + 2) then some .missing
  else if decide (1 ≤ i) && decide (d = tableAt t (i - 1) j + 2) then some .extra
  else none

/-- The traceback from cell (i, j) (04 R68): the marks of the target symbols after column j are `marks`, and `extra` extra
steps were taken. `fuel` bounds the steps; i + j is enough, because each step lowers the row or the column. -/
def traceback (pairs : List (Nat × Nat)) (A T : List Nat) (t : List (List Nat)) :
    Nat → Nat → Nat → List Mark → Nat → List Mark × Nat
  | 0, _, _, marks, extra => (marks, extra)
  | fuel + 1, i, j, marks, extra =>
    match traceStep pairs A T t i j with
    | none => (marks, extra)
    | some .matched => traceback pairs A T t fuel (i - 1) (j - 1) (.right :: marks) extra
    | some .swap => traceback pairs A T t fuel (i - 2) (j - 2) (.swapped :: .swapped :: marks) extra
    | some .near => traceback pairs A T t fuel (i - 1) (j - 1) (.near :: marks) extra
    | some .wrong => traceback pairs A T t fuel (i - 1) (j - 1) (.wrong :: marks) extra
    | some .missing => traceback pairs A T t fuel i (j - 1) (.missing :: marks) extra
    | some .extra => traceback pairs A T t fuel (i - 1) j marks (extra + 1)

/-- The marks of the reduced target and the extra count (04 R68). -/
def traceMarks (pairs : List (Nat × Nat)) (A T : List Nat) : List Mark × Nat :=
  traceback pairs A T (fullTable pairs A T) (A.length + T.length) A.length T.length [] 0

/-- The marks placed at the positions of the target copy (04 R69): under SKIP a mark of the target is PASSED. -/
def placeMarks (rule : MarkRule) : List Nat → List Mark → List Mark
  | [], _ => []
  | s :: rest, marks =>
    if rule = .skip ∧ isMark s = true then .passed :: placeMarks rule rest marks
    else marks.headD .right :: placeMarks rule rest marks.tail

/-- A mark that counts as a letter error (04 R69). -/
def Mark.isError : Mark → Bool
  | .near => true
  | .swapped => true
  | .wrong => true
  | .missing => true
  | .right => false
  | .passed => false

/-- The letter-error count (04 R69). -/
def letterErrorCount (marks : List Mark) (extra : Nat) : Nat := marks.countP Mark.isError + extra

/-- The score (04 R70). -/
def scoreOf (d n : Nat) : Nat := if 2 * n ≤ d then 0 else (100 * (2 * n - d) + n) / (2 * n)

/-- The verdict (04 R71). -/
def verdictOf (d score threshold : Nat) : Verdict :=
  if d = 0 then .exact else if threshold ≤ score then .close else .wrong

/-- The judgement of a judging record with the close threshold in force at the completion (04 R74, R75). -/
def judgementOf (r : JudgingRecord) (threshold : Nat) : Judgement :=
  let A := reduce r.rule r.attempt
  let T := reduce r.rule r.target
  let d := distance r.pairs A T
  let trace := traceMarks r.pairs A T
  let marks := placeMarks r.rule r.target trace.1
  let score := scoreOf d T.length
  { wordIndex := r.wordIndex
    tryNumber := r.tryNumber
    attempt := r.attempt
    rule := r.rule
    marks := marks
    extra := trace.2
    letterErrors := letterErrorCount marks trace.2
    distance := d
    score := score
    verdict := verdictOf d score threshold }

/-- What WORD_JUDGED carries of a judgement (04 R76). -/
def Judgement.report (j : Judgement) : JudgedReport where
  wordIndex := j.wordIndex
  tryNumber := j.tryNumber
  score := j.score
  verdict := j.verdict
  distance := j.distance
  letterErrors := j.letterErrors
  extra := j.extra
  marks := j.marks

end Sys2Proof.Machine
end

