-- ==== Sys2Proof/Machine/Flags.lean ====
section
/-! DEFINITION. What the spec derives from the state: the six sources in order, the word that is current, the intake state,
the timer state and the cue lock, which sources may speak, and the output lines. -/

namespace Sys2Proof.Machine

/-! ### One entry for each source -/

/-- The entry of one source. -/
def PerSource.get {α : Type} (p : PerSource α) : Source → α
  | .now => p.now
  | .echo => p.echo
  | .verdict => p.verdict
  | .word => p.word
  | .cue => p.cue
  | .queue => p.queue

/-- The entries with one source's replaced. -/
def PerSource.set {α : Type} (p : PerSource α) (s : Source) (a : α) : PerSource α :=
  match s with
  | .now => { p with now := a }
  | .echo => { p with echo := a }
  | .verdict => { p with verdict := a }
  | .word => { p with word := a }
  | .cue => { p with cue := a }
  | .queue => { p with queue := a }

/-- The tie order (06 R108). -/
def tieOrder : List Source := [.now, .echo, .verdict, .word, .cue, .queue]

/-- The lesson sources (06 R107). -/
def Source.isLesson : Source → Bool
  | .now => false
  | .queue => false
  | .echo => true
  | .verdict => true
  | .word => true
  | .cue => true

/-- How many utterances a source's pending place holds (05 R86). -/
def Source.capacity : Source → Nat
  | .now => 1
  | .word => 1
  | .cue => 1
  | .echo => Config.shortListCapacity
  | .verdict => Config.shortListCapacity
  | .queue => Config.queueCapacity

/-! ### The lesson -/

/-- A word is current while the lesson is RUNNING or PAUSED (03 R40). -/
def LessonState.current : LessonState → Bool
  | .running => true
  | .paused => true
  | .empty => false
  | .loaded => false
  | .finished => false

/-- The record of the current word (03 R40). -/
def State.currentWord (s : State) : Option WordRecord := s.cycle.words[s.cycle.index]?

/-- The current word's spelling. -/
def State.target (s : State) : List Nat := (s.currentWord.map WordRecord.spelling).getD []

/-- The results record at the current word index (03 R41). -/
def State.currentResult (s : State) : ResultRecord := s.cycle.results.getD s.cycle.index ResultRecord.clear

/-- The word index lies in the tally window (04 R79). -/
def Judge.inWindow (j : Judge) (w : Nat) : Bool := decide (j.windowStart ≤ w ∧ w < j.windowStart + j.windowLength)

/-! ### The running place, the timer and the intake -/

/-- The running utterance is PLAYING (06 R106). -/
def State.playing (s : State) : Bool :=
  match s.arbiter.running with
  | some r => decide (r.state = .playing)
  | none => false

/-- An utterance of this source is PLAYING or FADING (06 R106). -/
def State.sounding (s : State) (src : Source) : Bool :=
  match s.arbiter.running with
  | some r => decide (r.utterance.source = src)
  | none => false

/-- The Cue Timer's state (07 R123, R124). -/
def State.timerState (s : State) : TimerState :=
  if s.cue.running then
    if s.cycle.lesson = .running ∧ s.cycle.phase = .answering ∧ s.arbiter.running = none then .counting else .frozen
  else .stopped

/-- The cue lock (07 R127). -/
def State.lockOn (s : State) : Bool :=
  s.cue.running && decide (s.cue.boundary ≠ 0) && decide (s.cue.remaining ≤ s.cue.boundary)

/-- The intake state (02 R19), the first matching row deciding. -/
def State.intakeState (s : State) : IntakeState :=
  if s.intake.passHold then .heldPass
  else if s.intake.letterHold then .heldLetter
  else if s.cycle.lesson = .running ∧ s.cycle.phase = .answering then .taking
  else .idle

/-! ### Who may speak -/

/-- A source's level (06 R118). -/
def State.level (s : State) (src : Source) : Nat := (s.arbiter.settings.get src).level

/-- Eligibility (06 R107). -/
def State.eligible (s : State) (src : Source) : Bool :=
  decide (s.op = .ready) && (!src.isLesson || decide (s.cycle.lesson = .running)) &&
    (decide (src = .cue) || !(s.lockOn && decide (s.level .cue ≤ s.level src)))

/-- The source holds an utterance in its backup slot or its pending place. -/
def State.holds (s : State) (src : Source) : Bool :=
  let p := s.sources.places.get src
  p.backup.isSome || !p.pending.isEmpty

/-- A source participates when it is eligible and holds something (06 R107). -/
def State.participates (s : State) (src : Source) : Bool := s.eligible src && s.holds src

/-- Of two sources, the first unless the second is strictly more urgent. -/
def State.moreUrgent (s : State) (best : Option Source) (src : Source) : Option Source :=
  match best with
  | none => some src
  | some b => if s.level src < s.level b then some src else some b

/-- The arbiter's choice (06 R108): the most urgent level, and the first source of it in the tie order. -/
def State.choice (s : State) : Option Source :=
  (tieOrder.filter s.participates).foldl s.moreUrgent none

/-- Some source participates, has its cut-in flag on and is strictly more urgent than `src` (06 R111). -/
def State.cutInAgainst (s : State) (src : Source) : Bool :=
  tieOrder.any fun c => s.participates c && (s.arbiter.settings.get c).cutIn && decide (s.level c < s.level src)

/-! ### The Link Port's places -/

/-- A frame of the outbox that is a reply. -/
def OutFrame.isReply : OutFrame → Bool
  | .reply _ => true
  | .notice _ => false

/-- A frame of the outbox that is a notice. -/
def OutFrame.isNotice : OutFrame → Bool
  | .reply _ => false
  | .notice _ => true

/-- The kind of a notice. -/
def Notice.kind : Notice → NoticeKind
  | .resetDone _ => .resetDone
  | .woke _ => .woke
  | .keyPass _ _ => .keyPass
  | .ringOverrun _ => .ringOverrun
  | .attemptFull _ => .attemptFull
  | .wordJudged _ _ => .wordJudged
  | .lessonEnd _ _ _ _ => .lessonEnd
  | .childIdle _ => .childIdle
  | .queueLow _ => .queueLow
  | .said _ _ => .said
  | .fault _ _ => .fault
  | .linkError _ _ => .linkError

/-- The frame is a notice of this kind. -/
def OutFrame.hasKind (k : NoticeKind) : OutFrame → Bool
  | .reply _ => false
  | .notice n => decide (n.kind = k)

/-- Reply places that hold a frame or are kept for a command (09 R155). -/
def Link.replyPlacesUsed (l : Link) : Nat :=
  l.outbox.countP OutFrame.isReply + (if (l.transmitting.map OutFrame.isReply).getD false then 1 else 0) +
    (if l.begun.isSome then 1 else 0)

/-- A reply place is free (09 R155). -/
def Link.replyPlaceFree (l : Link) : Bool := decide (l.replyPlacesUsed < Config.replyPlaces)

/-- The Link Port may take the head of the inbox (09 R155); nothing happens while RESETn is low (10 R167). -/
def State.mayTake (s : State) : Bool := !s.resetLow && s.link.begun.isNone && s.link.replyPlaceFree

/-! ### Output lines -/

/-- A notice is waiting, in transmission or held (09 R161). -/
def Link.noticeWaiting (l : Link) : Bool :=
  l.outbox.any OutFrame.isNotice || (l.transmitting.map OutFrame.isNotice).getD false || l.held.isSome

/-- ATTN is driven low (09 R161); it is high while RESETn is low. -/
def State.attnLow (s : State) : Bool := !s.resetLow && s.link.noticeWaiting

/-- AMP is active: ACTIVE, and HOLDING with its time running (08 R145). -/
def State.ampHigh (s : State) : Bool := decide (s.voice.amp ≠ .inactive)

end Sys2Proof.Machine
end

