-- ==== Sys2Proof/Machine/Ops.lean ====
section
/-! DEFINITION. The named operations over State that the steps share: one block's replacement, the Link Port's raises and
replies, the sources' arrivals and removals, the arbiter's cuts and ends, the Cue Timer's loads and stops, and the Word
Cycle Controller's sweep, word begin and advance. -/

namespace Sys2Proof.Machine

/-! ### Replacing one block -/

def State.putScanner (s : State) (b : Scanner) : State := { s with scanner := b }
def State.putRing (s : State) (b : Ring) : State := { s with ring := b }
def State.putIntake (s : State) (b : Intake) : State := { s with intake := b }
def State.putCycle (s : State) (b : Cycle) : State := { s with cycle := b }
def State.putJudge (s : State) (b : Judge) : State := { s with judge := b }
def State.putSources (s : State) (b : Sources) : State := { s with sources := b }
def State.putArbiter (s : State) (b : Arbiter) : State := { s with arbiter := b }
def State.putCue (s : State) (b : CueTimer) : State := { s with cue := b }
def State.putVoice (s : State) (b : Voice) : State := { s with voice := b }
def State.putBank (s : State) (b : Bank) : State := { s with bank := b }
def State.putLink (s : State) (b : Link) : State := { s with link := b }
def State.putOp (s : State) (b : OpState) : State := { s with op := b }

/-- A step that occurs under its condition and changes nothing where the condition fails (log 3); nothing happens while
RESETn is low (10 R167). -/
def State.occurs (s : State) (cond : Bool) (f : State → State) : Host.Outcome State Fault Refusal :=
  .next (if !s.resetLow && cond then f s else s)

/-! ### The speech bank (08 R133) -/

/-- The byte of the flash at an address; an unlisted address reads as erased (log 8). -/
def flashRead (m : List Host.Cell) (a : Nat) : Byte :=
  match m with
  | [] => Config.erasedByte
  | c :: rest => if c.1 = a then c.2 else flashRead rest a

/-- Put a byte into a flash: addresses stay rising and no entry equals an unlisted one. The part never does this
(08 R133, "read-only to the part"); it is how a bank is written down. -/
def flashWrite (m : List Host.Cell) (a : Nat) (b : Byte) : List Host.Cell :=
  match m with
  | [] => if b = Config.erasedByte then [] else [(a, b)]
  | c :: rest =>
    if c.1 = a then (if b = Config.erasedByte then rest else (a, b) :: rest)
    else if a < c.1 then (if b = Config.erasedByte then c :: rest else (a, b) :: c :: rest)
    else c :: flashWrite rest a b

/-- Every address of the list is above `a`, they rise strictly, and no entry equals an unlisted one. -/
def flashAbove (a : Nat) : List Host.Cell → Bool
  | [] => true
  | c :: rest => decide (a < c.1) && decide (c.2 ≠ Config.erasedByte) && flashAbove c.1 rest

/-- The canonical form of a flash. -/
def Memory.wf : List Host.Cell → Bool
  | [] => true
  | c :: rest => decide (c.2 ≠ Config.erasedByte) && flashAbove c.1 rest

/-- A little-endian field of the bank of `n` bytes (08 R133). -/
def flashField (m : List Host.Cell) (a : Nat) : Nat → Nat
  | 0 => 0
  | n + 1 => (flashRead m a).toNat + 256 * flashField m (a + 1) n

/-- The read command for an address: 0x03 and the address, most significant byte first (08 R133). -/
def readCommand (a : Nat) : List Byte :=
  [Config.readOpcode, byteOf (a / 65536), byteOf (a / 256), byteOf a]

/-- The Bank Reader sends a read command for an address. -/
def State.spiRead (s : State) (a : Nat) : State := s.putBank { s.bank with spi := readCommand a }

/-! ### The outbox, notices and replies (09 R155 to R160) -/

/-- A list of at most eight entries with a more-flag receives further entries (02 R32, 05 R103). -/
def mergeEntries {α : Type} (more : Bool) (old new : List α) : Bool × List α :=
  if old.length < Config.noticeEntries then (more, old ++ new) else (true, old)

/-- The merge rules of the twelve kinds (09 R160): a raise `n` into a waiting or held frame `old` of its kind. -/
def Notice.merge (old n : Notice) : Notice :=
  match old, n with
  | .keyPass more es, .keyPass _ new =>
    .keyPass (mergeEntries more es new).1 (mergeEntries more es new).2
  | .said more es, .said _ new =>
    .said (mergeEntries more es new).1 (mergeEntries more es new).2
  | .wordJudged _ k, .wordJudged r _ => .wordJudged r (saturatingAdd Config.countTop k 1)
  | .fault _ k, .fault c _ => .fault c (saturatingAdd Config.countTop k 1)
  | .linkError _ k, .linkError c _ => .linkError c (saturatingAdd Config.countTop k 1)
  | _, n => n

/-- A waiting frame of the raise's kind takes the raise in and keeps its place. -/
def OutFrame.mergeInto (n : Notice) (f : OutFrame) : OutFrame :=
  match f with
  | .notice old => if old.kind = n.kind then .notice (old.merge n) else .notice old
  | .reply r => .reply r

/-- A raise (09 R160): held behind the transmission of its kind's frame, merged into a waiting one, or entered. -/
def Link.raise (l : Link) (n : Notice) : Link :=
  if (l.transmitting.map (OutFrame.hasKind n.kind)).getD false then
    match l.held with
    | none => { l with held := some n }
    | some h => { l with held := some (h.merge n) }
  else if l.outbox.any (OutFrame.hasKind n.kind) then
    { l with outbox := l.outbox.map (OutFrame.mergeInto n) }
  else { l with outbox := l.outbox ++ [.notice n] }

/-- A block raises a notice. -/
def State.raise (s : State) (n : Notice) : State := s.putLink (s.link.raise n)

/-- A reply enters the outbox (09 R155). -/
def State.reply (s : State) (r : Reply) : State :=
  s.putLink { s.link with outbox := s.link.outbox ++ [.reply r] }

/-! ### Taking and answering a command (09 R155 to R157) -/

/-- The kind code of the reply to a frame of this kind (09 R157). -/
def replyKind (k : Byte) : Byte := if knownKind k then k + 0x80 else 0xFF

/-- The Link Port takes the frame: the head of the inbox, or, with an empty inbox, the frame the command brings (log 2).
None when the taking cannot occur. -/
def State.takeFrame (s : State) (f : HostFrame) : Option State :=
  if s.mayTake then
    match s.link.inbox with
    | [] => some s
    | g :: rest => if g = f then some (s.putLink { s.link with inbox := rest }) else none
  else none

/-- What an owner hands back: the state it leaves, the result and the reply's payload. -/
structure Answer where
  state : State
  result : ResultCode
  payload : List Byte

/-- A refused command changes nothing and its reply carries the result code alone (09 R156, R157). -/
def State.refuse (s : State) (r : ResultCode) : Answer := ⟨s, r, []⟩

/-- An accepted command. -/
def State.accept (s : State) (payload : List Byte) : Answer := ⟨s, .ok, payload⟩

/-- One check of a command (09 R156): the first failing check decides the reply. -/
def State.check (s : State) (cond : Bool) (r : ResultCode) (k : Answer) : Answer := if cond then k else s.refuse r

/-- A command is taken, carried out by its owner and answered, the reply entering after what the owner raised (09 R155,
R158). Where it cannot be taken nothing happens. -/
def State.command (s : State) (kind tag : Byte) (payload : List Byte) (owner : State → Answer) :
    Host.Outcome State Fault Refusal :=
  match s.takeFrame ⟨kind, tag, payload⟩ with
  | none => .next s
  | some t => .next ((owner t).state.reply ⟨replyKind kind, tag, (owner t).result, (owner t).payload⟩)

/-- The lesson is neither RUNNING nor PAUSED. -/
def State.lessonIdle (s : State) : Bool := !s.cycle.lesson.current

/-- The checks of the settings that shape a lesson, SET_KEYS apart: SETUP, or READY with no lesson under way (09 "The
catalogue of commands"), in the order of 09 R156 (log 10). -/
def State.lessonSetting (s : State) (sizeOk valuesOk : Bool) (k : Answer) : Answer :=
  s.check (decide (s.op ≠ .doze)) .state <|
  s.check sizeOk .length <|
  s.check s.lessonIdle .state <|
  s.check valuesOk .range k

/-- The checks of a command accepted in READY alone that carries nothing. -/
def State.readyBare (s : State) (payload : List Byte) (k : Answer) : Answer :=
  s.check (decide (s.op = .ready)) .state <|
  s.check payload.isEmpty .length k

/-! ### Utterances and sources (05 R83 to R97) -/

/-- An utterance the part composes: tag 0, notify no, resume index 0 (05 R96). -/
def compose (src : Source) (kind : UttKind) (items : List Item) : Utterance := ⟨src, kind, 0, false, items, 0⟩

/-- The slot of a phrase (05 R94). -/
def Phrase.slot : Phrase → Nat
  | .spell => 0
  | .praise => 1
  | .almost => 2
  | .retry => 3
  | .spelled => 4
  | .cue => 5
  | .noHint => 6
  | .oops => 7

/-- A CLIP item with the phrase slot's clip number as it stands (05 R94). -/
def State.phrase (s : State) (p : Phrase) : Item := .clip (s.sources.phrases.getD p.slot 0)

/-- One source's places. -/
def State.place (s : State) (src : Source) : Place := s.sources.places.get src

/-- One source's places are replaced. -/
def State.putPlace (s : State) (src : Source) (p : Place) : State :=
  s.putSources { s.sources with places := s.sources.places.set src p }

/-! ### Cuts (06 R111 to R116) -/

/-- The running utterance begins a fade; RESTORE sets the resume index to the item being sounded (06 R113). -/
def Running.beginFade (r : Running) (k : FadeKind) : Running :=
  match k with
  | .restore => { r with state := .fading .restore 0, utterance := { r.utterance with resume := r.cursor.index } }
  | .discardCut => { r with state := .fading .discardCut 0 }
  | .discardStopped => { r with state := .fading .discardStopped 0 }

/-- A cut with restore reaches a PLAYING utterance only (06 R112). -/
def Running.cutRestore (r : Running) : Running :=
  match r.state with
  | .playing => r.beginFade .restore
  | .fading _ _ => r

/-- A cut with discard (06 R115): a PLAYING utterance begins to fade, a RESTORE fade becomes a discard, and a discard
keeps its kind (06 R112). -/
def Running.cutDiscard (r : Running) (k : FadeKind) : Running :=
  match r.state with
  | .playing => r.beginFade k
  | .fading .restore n => { r with state := .fading k n }
  | .fading .discardCut _ => r
  | .fading .discardStopped _ => r

/-- The running utterance, if any, is changed. -/
def State.mapRunning (s : State) (f : Running → Running) : State :=
  s.putArbiter { s.arbiter with running := s.arbiter.running.map f }

/-- The cut-in test (06 R111). -/
def State.cutInTest (s : State) : State :=
  match s.arbiter.running with
  | none => s
  | some r => if s.cutInAgainst r.utterance.source then s.mapRunning Running.cutRestore else s

/-- An utterance arrives at the tail of its source's pending place, and the cut-in test is made (06 R111). -/
def State.arrive (s : State) (u : Utterance) : State :=
  (s.putPlace u.source { s.place u.source with pending := (s.place u.source).pending ++ [u] }).cutInTest

/-! ### Cue Timer (07 R125, R126) -/

/-- A load: the remaining count becomes the cue reload and the part-unit is discarded. `stretch` is cues-this-stretch
after it. The lock may go off, so the cut-in test is made (06 R111). -/
def State.cueLoad (s : State) (stretch : Nat) : State :=
  (s.putCue { s.cue with running := true, remaining := s.cue.reload, part := 0, stretch := stretch }).cutInTest

/-- A stop: STOPPED with the remaining count 0, so the lock is off (07 R127). -/
def State.cueStop (s : State) : State :=
  (s.putCue { s.cue with running := false, remaining := 0, part := 0 }).cutInTest

/-! ### The Attempt and the results (02 R18, R20; 03 R41) -/

/-- The Attempt is cleared, which clears the attempt-full flag and closes the letter hold (02 R18, R20). -/
def State.clearAttempt (s : State) : State :=
  s.putIntake { s.intake with attempt := [], attemptFull := false, letterHold := false }

/-- The results record at an index is changed. -/
def State.mapResult (s : State) (i : Nat) (f : ResultRecord → ResultRecord) : State :=
  s.putCycle { s.cycle with results := s.cycle.results.modify i f }

/-- The record becomes SKIPPED if it is OPEN (03 R50, R51). -/
def ResultRecord.skipOpen (r : ResultRecord) : ResultRecord :=
  match r.state with
  | .opened => { r with state := .skipped }
  | .unseen => r
  | .exact => r
  | .missed => r
  | .skipped => r

/-- A tally receives an addition and stops at 65 535 (04 R79). -/
def tallyAdd (t k : Nat) : Nat := saturatingAdd Config.tallyTop t k

/-! ### The word cycle (03 R49 to R59) -/

/-- The pending places and backups of the lesson sources emptied (03 R49). -/
def PerSource.sweepLesson (p : PerSource Place) : PerSource Place :=
  { p with echo := ⟨[], none⟩, verdict := ⟨[], none⟩, word := ⟨[], none⟩, cue := ⟨[], none⟩ }

/-- The running utterance of a lesson source is cut with discard (03 R49, 06 R115). -/
def Running.sweep (r : Running) : Running :=
  if r.utterance.source.isLesson then r.cutDiscard .discardStopped else r

/-- The lesson sweep (03 R49). The ends it reports are of kind STOPPED, on which nobody acts (03 R57). -/
def State.sweep (s : State) : State :=
  (s.putSources { s.sources with places := s.sources.places.sweepLesson }).mapRunning Running.sweep

/-- The results record of a word that begins (03 R52). -/
def ResultRecord.begun : ResultRecord := { ResultRecord.clear with state := .opened }

/-- A word begins (03 R52). -/
def State.wordBegin (s : State) (i : Nat) : State :=
  let s := s.putCycle { s.cycle with index := i, results := s.cycle.results.set i ResultRecord.begun }
  let s := s.cueStop
  let s := s.putCue { s.cue with stretch := 0 }
  let s := s.clearAttempt.sweep
  let s := s.arrive (compose .word .wordPrompt [s.phrase .spell, .word, .sentence, .word])
  s.putCycle { s.cycle with phase := .prompting }

/-- The records in one state (03 R59). -/
def countResults (rs : List ResultRecord) (k : ResultState) : Nat := rs.countP fun r => decide (r.state = k)

/-- The tries used over all records (03 R59). -/
def totalTries (rs : List ResultRecord) : Nat := (rs.map ResultRecord.tries).sum

/-- The LESSON_END notice of the results as they stand (03 R59). -/
def lessonEndNotice (rs : List ResultRecord) : Notice :=
  .lessonEnd (countResults rs .exact) (countResults rs .missed) (countResults rs .skipped) (totalTries rs)

/-- The lesson ends past its last word (03 R58). -/
def State.lessonFinish (s : State) : State :=
  let s := s.sweep.cueStop
  let s := s.putCycle { s.cycle with phase := .none, lesson := .finished }
  s.raise (lessonEndNotice s.cycle.results)

/-- The word advances (03 R58). -/
def State.advance (s : State) : State :=
  if s.cycle.index + 1 < s.cycle.words.length then s.wordBegin (s.cycle.index + 1) else s.lessonFinish

/-- The start of a WORD_PROMPT is reported (03 R53). -/
def State.promptStarted (s : State) : State :=
  if s.cycle.phase = .prompting then
    (s.putCycle { s.cycle with phase := .answering }).cueLoad 0
  else s

/-- The end of a feedback acts by the current word's record (03 R57). -/
def State.feedbackEnded (s : State) : State :=
  match s.currentResult.state with
  | .opened => (s.putCycle { s.cycle with phase := .answering }).cueLoad 0
  | .exact => if s.intake.settings.endHold then s.putCycle { s.cycle with phase := .held } else s.advance
  | .missed => if s.intake.settings.endHold then s.putCycle { s.cycle with phase := .held } else s.advance
  | .unseen => s
  | .skipped => s

/-- Ends the controller acts on (03 R57): a FEEDBACK or SPELLBACK that ended DONE or CUT. -/
def endActs (k : UttKind) (e : EndKind) : Bool :=
  decide ((k = .feedback ∨ k = .spellback) ∧ (e = .done ∨ e = .cut))

/-- The end of a lesson source's utterance is reported to the controller (03 R57). -/
def State.lessonEndReport (s : State) (k : UttKind) (e : EndKind) : State :=
  if s.cycle.phase = .feedback ∧ endActs k e = true then s.feedbackEnded else s

/-- The end of an utterance is reported (06 R117): to the controller, as a SAID entry, or to nobody. -/
def State.reportEnd (s : State) (u : Utterance) (e : EndKind) : State :=
  if u.source.isLesson then s.lessonEndReport u.kind e
  else if u.notify then s.raise (.said false [⟨u.tag, e⟩])
  else s

/-- AMP when the running place empties (08 R145): from ACTIVE the hold begins. -/
def Amp.release : Amp → Amp
  | .active => .holding 0
  | .inactive => .inactive
  | .holding n => .holding n

/-- The running place empties: the cursor is cleared with it (08 R142), AMP begins its hold, and the output code is 512, as
it is throughout HOLDING (08 R145) and whenever nothing is PLAYING or FADING (08 R143). That it is 512 from this step on, and
not only from the sample period after it, is the model's choice (log 23). -/
def State.vacate (s : State) : State :=
  (s.putArbiter { s.arbiter with running := none }).putVoice
    { s.voice with output := Config.silenceCode, amp := s.voice.amp.release }

/-- A running utterance ends (06 R117): it leaves the running place, then its end is reported. The next choice is a step
of its own, UTTERANCE_START. -/
def State.endRunning (s : State) (u : Utterance) (e : EndKind) : State := s.vacate.reportEnd u e

/-! ### Judging begin and abandonment (03 R50, R54; 04 R73) -/

/-- The Judge drops its work (04 R73). -/
def State.abandonJudging (s : State) : State := s.putJudge { s.judge with working := none }

/-- An OOPS or HINT, which judging begin withdraws (03 R54). -/
def Utterance.isAside (u : Utterance) : Bool := decide (u.kind = .oops ∨ u.kind = .hint)

/-- Pending and backed-up OOPS and HINT utterances withdrawn (03 R54). -/
def Place.dropAsides (p : Place) : Place :=
  ⟨p.pending.filter fun u => !u.isAside, p.backup.filter fun u => !u.isAside⟩

/-- The judging record as judging begin makes it (04 R63). -/
def State.judgingRecord (s : State) : JudgingRecord where
  wordIndex := s.cycle.index
  tryNumber := s.currentResult.tries
  attempt := s.intake.attempt
  target := s.target
  rule := s.judge.rule
  pairs := s.judge.pairs

/-- Judging begins (03 R54, 04 R63). -/
def State.judgingBegin (s : State) : State :=
  let s := s.mapResult s.cycle.index fun r => { r with tries := r.tries + 1 }
  let s := s.putPlace .verdict (s.place .verdict).dropAsides
  let s := s.putJudge { s.judge with working := some s.judgingRecord }
  let s := s.cueStop
  s.putCycle { s.cycle with phase := .judging }

/-! ### The hear request (02 R30) -/

/-- The request is granted: WORD's slot and backup are empty and no WORD utterance is PLAYING or FADING. -/
def State.hearGranted (s : State) : Bool := !s.holds .word && !s.sounding .word

/-- A hear request (02 R30); a refused one has no effect. -/
def State.hearRequest (s : State) : State :=
  if s.hearGranted then s.arrive (compose .word .hearPrompt [.word, .sentence, .word]) else s

/-! ### Time on an empty queue (log 4) -/

/-- The AMP hold after one more unit of 125 us (08 R145). -/
def Amp.tick : Amp → Amp
  | .holding e => .holding (min Config.ampHold (e + 1))
  | .inactive => .inactive
  | .active => .active

/-- The inter-byte timer after one more unit of 125 us; it does not run in HUNT (09 R152). -/
def Assembler.tick (a : Assembler) : Assembler :=
  match a.state with
  | .hunt => a
  | .length => { a with timer := min Config.interByteTop (a.timer + 1) }
  | .body => { a with timer := min Config.interByteTop (a.timer + 1) }
  | .check => { a with timer := min Config.interByteTop (a.timer + 1) }

/-- The part-unit of the Cue Timer after one more unit of 125 us of counting time (07 R124). -/
def CueTimer.tick (c : CueTimer) : CueTimer := { c with part := min Config.cueUnit (c.part + 1) }

/-- One unit of 125 us passes with no step due: the part-unit of a COUNTING timer, a HOLDING amplifier and the inter-byte
timer gather it. DESIGN CHOICE (log 4). -/
def State.passTime (s : State) : State :=
  if s.resetLow then s
  else
    let s := if s.timerState = .counting then s.putCue s.cue.tick else s
    let s := s.putVoice { s.voice with amp := s.voice.amp.tick }
    s.putLink { s.link with assembler := s.link.assembler.tick }

/-! ### Waking (10 R169) -/

/-- The wake: every held entry is marked quiet, the part is READY and WOKE carries the lowest held position. -/
def State.wakeUp (s : State) : State :=
  let s := s.putScanner { s.scanner with held := s.scanner.held.map fun h => { h with quiet := true } }
  let s := s.putOp .ready
  s.raise (.woke ((s.scanner.held.head?.map HeldEntry.position).getD 0))

end Sys2Proof.Machine
end

