-- ==== Sys2Proof/Machine/Layout.lean ====
section
/-! DEFINITION. The byte layouts of what the part sends (11 R172, R174, R176 to R179): codes, reply payloads, notice
payloads, frame bodies and the bytes on TXD. -/

namespace Sys2Proof.Machine

/-! ### Codes (11 R172, R178, R179) -/

def ResultCode.code : ResultCode → Byte
  | .ok => 0 | .unknown => 1 | .length => 2 | .range => 3 | .state => 4
  | .full => 5 | .occupied => 6 | .notHeld => 7 | .overflow => 8 | .bankBad => 9

def Edge.code : Edge → Byte
  | .press => 0 | .release => 1

def MarkRule.code : MarkRule → Byte
  | .strict => 0 | .skip => 1

def Source.code : Source → Byte
  | .now => 0 | .echo => 1 | .verdict => 2 | .word => 3 | .cue => 4 | .queue => 5

def UttKind.code : UttKind → Byte
  | .host => 0 | .echo => 1 | .oops => 2 | .hint => 3 | .feedback => 4 | .spellback => 5
  | .wordPrompt => 6 | .hearPrompt => 7 | .cuePrompt => 8

def RunState.code : RunState → Byte
  | .playing => 0 | .fading _ _ => 1

/-- End kinds of a SAID entry. STOPPED never ends a HOST utterance (05 R88) and has no code in the manual: 0 here (log 24). -/
def EndKind.code : EndKind → Byte
  | .done => 0 | .cut => 1 | .flushed => 2 | .stopped => 0

def Verdict.code : Verdict → Byte
  | .exact => 0 | .close => 1 | .wrong => 2

def Mark.code : Mark → Byte
  | .right => 0 | .swapped => 1 | .near => 2 | .wrong => 3 | .missing => 4 | .passed => 5

def ResultState.code : ResultState → Byte
  | .unseen => 0 | .opened => 1 | .exact => 2 | .missed => 3 | .skipped => 4

def OpState.code : OpState → Byte
  | .setup => 0 | .ready => 1 | .doze => 2

def LessonState.code : LessonState → Byte
  | .empty => 0 | .loaded => 1 | .running => 2 | .paused => 3 | .finished => 4

def Phase.code : Phase → Byte
  | .none => 0 | .prompting => 1 | .answering => 2 | .judging => 3 | .feedback => 4 | .held => 5

def IntakeState.code : IntakeState → Byte
  | .idle => 0 | .taking => 1 | .heldLetter => 2 | .heldPass => 3

def TimerState.code : TimerState → Byte
  | .stopped => 0 | .counting => 1 | .frozen => 2

def LinkCause.code : LinkCause → Byte
  | .len => 1 | .check => 2 | .timeout => 3

def ResetCause.code : ResetCause → Byte
  | .pin => 0 | .command => 1

/-- The kind codes of the notices (11 R178). -/
def NoticeKind.code : NoticeKind → Byte
  | .resetDone => 0x40 | .woke => 0x41 | .keyPass => 0x42 | .ringOverrun => 0x43 | .attemptFull => 0x44
  | .wordJudged => 0x45 | .lessonEnd => 0x46 | .childIdle => 0x47 | .queueLow => 0x48 | .said => 0x49
  | .fault => 0x4A | .linkError => 0x4B

/-! ### Reply payloads (11 R176) -/

/-- A list sent at its full fixed size, the entries past its length as 0 (11 R172). -/
def padded (n : Nat) (l : List Byte) : List Byte := l.take n ++ List.replicate (n - l.length) 0

/-- A results record (11 R174). -/
def resultBytes (r : ResultRecord) : List Byte :=
  [r.state.code, byteOf r.tries, byteOf r.best, byteOf r.last, byteOf r.hints, byteOf r.refusals, byteOf r.cues]

/-- The last-judged record of GET_ATTEMPT, its offsets 27 to 81; 0 when empty. -/
def lastJudgedBytes : Option Judgement → List Byte
  | none => List.replicate 55 0
  | some j =>
    [1, byteOf j.wordIndex, byteOf j.tryNumber, byteOf j.attempt.length] ++
      padded 24 (j.attempt.map byteOf) ++
      [j.rule.code, byteOf j.marks.length] ++ padded 20 (j.marks.map Mark.code) ++
      [byteOf j.extra, byteOf j.letterErrors, byteOf j.distance, byteOf j.score, j.verdict.code]

/-- GET_ATTEMPT's 82 bytes. -/
def State.attemptPayload (s : State) : List Byte :=
  byteOf s.intake.attempt.length :: padded 24 (s.intake.attempt.map byteOf) ++
    [flagByte s.intake.attemptFull, s.intakeState.code] ++ lastJudgedBytes s.judge.last

/-- The running source, kind and state of STATUS, offsets 6 to 8. -/
def State.runningBytes (s : State) : List Byte :=
  match s.arbiter.running with
  | none => [0xFF, 0, 0]
  | some r => [r.utterance.source.code, r.utterance.kind.code, r.state.code]

/-- The backups of STATUS, one bit per source from bit 0, NOW. -/
def State.backupBits (s : State) : Nat :=
  (if (s.place .now).backup.isSome then 1 else 0) + (if (s.place .echo).backup.isSome then 2 else 0) +
  (if (s.place .verdict).backup.isSome then 4 else 0) + (if (s.place .word).backup.isSome then 8 else 0) +
  (if (s.place .cue).backup.isSome then 16 else 0) + (if (s.place .queue).backup.isSome then 32 else 0)

/-- STATUS's 21 bytes (10 R171). -/
def State.statusPayload (s : State) : List Byte :=
  [s.op.code, s.cycle.lesson.code, byteOf s.cycle.index, s.cycle.phase.code, s.intakeState.code,
    byteOf s.intake.attempt.length] ++ s.runningBytes ++
  [byteOf (s.place .queue).pending.length, byteOf (s.place .echo).pending.length,
    byteOf (s.place .verdict).pending.length, byteOf s.backupBits, s.timerState.code] ++ le16 s.cue.remaining ++
  [flagByte s.lockOn, byteOf s.currentResult.tries, byteOf s.currentResult.hints] ++ le16 s.bank.clipCount

/-- GET_TALLY's bytes (04 R81). -/
def Judge.tallyPayload (j : Judge) : List Byte :=
  [byteOf j.windowStart, byteOf j.windowLength] ++ le16 j.letterErrors ++ le16 j.attemptsJudged ++ le16 j.exactCount

/-- GET_RESULTS's bytes (03 R60). -/
def Cycle.resultsPayload (c : Cycle) (first count : Nat) : List Byte :=
  [byteOf c.words.length, byteOf first, byteOf count] ++ (((c.results.drop first).take count).map resultBytes).flatten

/-! ### Notice payloads (11 R174, R177) -/

def keyPassBytes (e : KeyPassEntry) : List Byte := [byteOf e.position, byteOf e.symbol, e.edge.code]

def saidBytes (e : SaidEntry) : List Byte := [e.tag, e.ended.code]

def Notice.payload : Notice → List Byte
  | .resetDone c => [c.code]
  | .woke p => [byteOf p]
  | .keyPass more es => [flagByte more, byteOf es.length] ++ (es.map keyPassBytes).flatten
  | .ringOverrun n => [byteOf n]
  | .attemptFull w => [byteOf w]
  | .wordJudged r k =>
    [byteOf r.wordIndex, byteOf r.tryNumber, byteOf r.score, r.verdict.code, byteOf r.distance,
      byteOf r.letterErrors, byteOf r.extra, byteOf k, byteOf r.marks.length] ++ r.marks.map Mark.code
  | .lessonEnd e m k t => [byteOf e, byteOf m, byteOf k, byteOf t]
  | .childIdle w => [byteOf w]
  | .queueLow l => [byteOf l]
  | .said more es => [flagByte more, byteOf es.length] ++ (es.map saidBytes).flatten
  | .fault c k => le16 c ++ [byteOf k]
  | .linkError c k => [c.code, byteOf k]

/-! ### Frames on TXD (09 R150, R151) -/

/-- The body of a frame: a reply opens with kind, tag and result code, a notice with its kind. -/
def OutFrame.body : OutFrame → List Byte
  | .reply r => [r.kind, r.tag, r.result.code] ++ r.payload
  | .notice n => n.kind.code :: n.payload

/-- The bytes on TXD while a frame is in transmission; none while TXD is idle high (log 21). -/
def State.txdFrame (s : State) : List Byte :=
  match s.link.transmitting with
  | none => []
  | some f => wireFrame f.body

end Sys2Proof.Machine
end

