-- ==== Sys2Proof/Machine/Operands.lean ====
section
/-! DEFINITION. Reading a command's payload (11 R172 to R175): fields, codes and records. An undefined code reads as none. -/

namespace Sys2Proof.Machine

/-- The one-byte field at an offset. -/
def field (p : List Byte) (i : Nat) : Nat := (p.getD i 0).toNat

/-- The two-byte field at an offset, least significant byte first (11 R172). -/
def field16 (p : List Byte) (i : Nat) : Nat := field p i + 256 * field p (i + 1)

/-- A boolean field (11 R172): any value but 0 and 1 is undefined. -/
def flagOf (n : Nat) : Option Bool :=
  match n with
  | 0 => some false
  | 1 => some true
  | _ => none

/-- Key roles (11 R172). -/
def roleOf (n : Nat) : Option Role :=
  match n with
  | 0 => some .none
  | 1 => some .letter
  | 2 => some .space
  | 3 => some .go
  | 4 => some .rubout
  | 5 => some .hear
  | 6 => some .hint
  | 7 => some .pass
  | _ => none

/-- Pass-edge settings (11 R172). -/
def passEdgeOf (n : Nat) : Option PassEdge :=
  match n with
  | 0 => some .press
  | 1 => some .release
  | 2 => some .both
  | _ => none

/-- Check modes (11 R172). -/
def checkModeOf (n : Nat) : Option CheckMode :=
  match n with
  | 0 => some .free
  | 1 => some .guided
  | _ => none

/-- Mark rules (11 R172). -/
def markRuleOf (n : Nat) : Option MarkRule :=
  match n with
  | 0 => some .strict
  | 1 => some .skip
  | _ => none

/-- Echo policies (11 R172). -/
def echoPolicyOf (n : Nat) : Option EchoPolicy :=
  match n with
  | 0 => some .queue
  | 1 => some .latest
  | 2 => some .snap
  | _ => none

/-- Echo styles (11 R172). -/
def echoStyleOf (n : Nat) : Option EchoStyle :=
  match n with
  | 0 => some .names
  | 1 => some .sounds
  | 2 => some .perLetter
  | _ => none

/-- Map modes (11 R172). -/
def mapModeOf (n : Nat) : Option MapMode :=
  match n with
  | 0 => some .name
  | 1 => some .sound
  | 2 => some .fixed
  | 3 => some .silent
  | _ => none

/-- A symbol code 1 to 28. -/
def isSymbol (n : Nat) : Bool := decide (1 ≤ n ∧ n ≤ 28)

/-- A letter 1 to 26. -/
def isLetter (n : Nat) : Bool := decide (1 ≤ n ∧ n ≤ 26)

/-- Every element has its reading: the readings in order, or none. -/
def allSome {α β : Type} (f : α → Option β) : List α → Option (List β)
  | [] => some []
  | a :: rest =>
    match f a, allSome f rest with
    | some b, some bs => some (b :: bs)
    | _, _ => none

/-- `n` consecutive records of `size` bytes from the front of a payload. -/
def records (size : Nat) : Nat → List Byte → List (List Byte)
  | 0, _ => []
  | n + 1, p => p.take size :: records size n (p.drop size)

/-- A key record (11 R174), checked as 01 R10 gives. -/
def keyRecordOf (r : List Byte) : Option KeyRecord :=
  match roleOf (field r 0) with
  | none => none
  | some .letter => if isSymbol (field r 1) then some ⟨.letter, field r 1⟩ else none
  | some role => if field r 1 ≤ 28 then some ⟨role, field r 1⟩ else none

/-- A map entry (11 R174); a trim above 7 is stored as 7 (08 R147). -/
def mapEntryOf (r : List Byte) : Option MapEntry :=
  (mapModeOf (field r 0)).map fun m => ⟨m, field16 r 1, field16 r 3, field16 r 5, min 7 (field r 7)⟩

/-- The spelling of a word record: as many symbols as its length says, at most the 20 sent (11 R172, R174). -/
def spellingOf (r : List Byte) : List Nat := ((r.drop 1).take (min 20 (field r 0))).map BitVec.toNat

/-- A word record's value checks (03 R42): length 1 to 20, symbols 1 to 28, at least one letter. -/
def wordRecordOk (r : List Byte) : Bool :=
  decide (1 ≤ field r 0 ∧ field r 0 ≤ 20) && (spellingOf r).all isSymbol && (spellingOf r).any isLetter

/-- A word record (11 R174); hints allowed above 3 are stored as 3 (03 R39). -/
def wordRecordOf (r : List Byte) : WordRecord := ⟨spellingOf r, field16 r 21, field16 r 23, min 3 (field r 25)⟩

/-- An utterance item (11 R173); a WORD or SENTENCE operand is not read. -/
def itemOf (r : List Byte) : Option Item :=
  match field r 0 with
  | 1 => some (.clip (field16 r 1))
  | 2 => if isSymbol (field16 r 1) then some (.letter (field16 r 1)) else none
  | 3 => if isSymbol (field16 r 1) then some (.name (field16 r 1)) else none
  | 4 => some .word
  | 5 => some .sentence
  | 6 => if 1 ≤ field16 r 1 ∧ field16 r 1 ≤ 255 then some (.gap (field16 r 1)) else none
  | _ => none

/-- The three bytes of an item (11 R173); a WORD or SENTENCE item is sent with operand 0. -/
def itemBytes : Item → List Byte
  | .clip n => 1 :: le16 n
  | .letter s => 2 :: le16 s
  | .name s => 3 :: le16 s
  | .word => 4 :: le16 0
  | .sentence => 5 :: le16 0
  | .gap n => 6 :: le16 n

/-- The ranges of an item's operand (05 R84). -/
def Item.inRange : Item → Bool
  | .clip n => decide (n ≤ 65535)
  | .letter s => isSymbol s
  | .name s => isSymbol s
  | .word => true
  | .sentence => true
  | .gap n => decide (1 ≤ n ∧ n ≤ 255)

/-- A pair of SET_PAIRS (04 R65): two distinct letters. -/
def pairOk (p : Nat × Nat) : Bool := isLetter p.1 && isLetter p.2 && decide (p.1 ≠ p.2)

/-- The same unordered pair (04 R64). -/
def samePair (p q : Nat × Nat) : Bool := decide ((p.1 = q.1 ∧ p.2 = q.2) ∨ (p.1 = q.2 ∧ p.2 = q.1))

/-- The carried pairs added in order, one equal to an earlier one left out (04 R65). -/
def addPairs (held : List (Nat × Nat)) : List (Nat × Nat) → List (Nat × Nat)
  | [] => held
  | p :: rest => if held.any (samePair p) then addPairs held rest else addPairs (held ++ [p]) rest

/-- The entries of a table with a run replaced from an offset onward (01 R10, 08 R147). -/
def splice {α : Type} (l : List α) (first : Nat) (run : List α) : List α :=
  l.take first ++ run ++ l.drop (first + run.length)

end Sys2Proof.Machine
end

