-- ==== Sys2Proof/Machine/Control.lean ====
section
/-! DEFINITION. Operating State Control (10): the pin reset, the RESET command, STATUS, BEGIN and its bank check, DOZE and
WAKE. -/

namespace Sys2Proof.Machine

/-! ### Pin reset (10 R167, 09 R163) -/

/-- Every block at its pin-reset value; the bank's content is outside the part, and the queue is not the part's. -/
def State.pinReset (s : State) : State :=
  { State.reset with
    resetLow := true
    bank := { State.reset.bank with flash := s.bank.flash }
    link := Link.pinReset
    pending := s.pending }

/-- PIN_RESET (10 R167): RESETn is low; all activity stops and the link stores are emptied (log 13). -/
def execPinReset (s : State) : Host.Outcome State Fault Refusal := .next s.pinReset

/-- RESETN_RELEASE (10 R167): every piece of state takes its pin-reset value and RESET_DONE is raised with cause PIN.
With RESETn high already it does not occur. -/
def execResetnRelease (s : State) : Host.Outcome State Fault Refusal :=
  .next (if s.resetLow then (State.raise { s.pinReset with resetLow := false } (.resetDone .pin)) else s)

/-! ### RESET (10 R166, 09 R162) -/

/-- The runtime state of every block cleared and the settings kept (10 R166). -/
def State.clearRuntime (s : State) : State :=
  { s with
    scanner := { s.scanner with held := [], intervals := [] }
    ring := Ring.pinReset
    intake := { Intake.pinReset with settings := s.intake.settings }
    cycle := { Cycle.pinReset with triesPerWord := s.cycle.triesPerWord }
    judge := { s.judge with working := none, last := none }
    sources := { s.sources with places := emptyPlaces }
    arbiter := { s.arbiter with running := none }
    cue := { s.cue with running := false, remaining := 0, part := 0, stretch := 0 }
    voice := { s.voice with output := Config.silenceCode, amp := .inactive }
    bank := { s.bank with valid := false, clipCount := 0, size := 0 } }

/-- The Link Port at the RESET command (09 R162): the inbox is discarded, the waiting notices and the held notice are
removed, the replies stay in order, and a frame in transmission goes on. -/
def Link.resetCommand (l : Link) : Link :=
  { l with inbox := [], held := none, outbox := l.outbox.filter OutFrame.isReply }

/-- What follows RESET's reply (10 R166, 09 R162). -/
def State.resetCommand (s : State) : State :=
  let s := s.clearRuntime
  let s := s.putLink s.link.resetCommand
  (s.raise (.resetDone .command)).putOp .setup

/-- RESET (10 R166): its OK enters the outbox first. -/
def execReset (tag : Byte) (payload : List Byte) (s : State) : Host.Outcome State Fault Refusal :=
  match s.takeFrame ⟨0x03, tag, payload⟩ with
  | none => .next s
  | some t =>
    if payload.isEmpty then .next (t.reply ⟨replyKind 0x03, tag, .ok, []⟩).resetCommand
    else .next (t.reply ⟨replyKind 0x03, tag, .length, []⟩)

/-! ### STATUS (10 R171) -/

/-- STATUS: accepted in every operating state; it changes nothing. -/
def execStatus (tag : Byte) (payload : List Byte) (s : State) : Host.Outcome State Fault Refusal :=
  s.command 0x01 tag payload fun s => s.check payload.isEmpty .length (s.accept s.statusPayload)

/-! ### BEGIN and the bank check (10 R165, 08 R134) -/

/-- BEGIN (10 R165): in SETUP the bank check starts and the reply place is kept until it completes (09 R155). -/
def execBegin (tag : Byte) (payload : List Byte) (s : State) : Host.Outcome State Fault Refusal :=
  match s.takeFrame ⟨0x02, tag, payload⟩ with
  | none => .next s
  | some t =>
    if t.op ≠ .setup then .next (t.reply ⟨replyKind 0x02, tag, .state, []⟩)
    else if payload.isEmpty then .next (t.putLink { t.link with begun := some tag })
    else .next (t.reply ⟨replyKind 0x02, tag, .length, []⟩)

/-- The header's magic (08 R134). -/
def Bank.magicOk (b : Bank) : Bool := decide ((List.range 4).map (flashRead b.flash) = Config.magic)

/-- The header's clip count (08 R133). -/
def Bank.headerCount (b : Bank) : Nat := flashField b.flash 4 2

/-- The header's bank size (08 R133). -/
def Bank.headerSize (b : Bank) : Nat := flashField b.flash 6 3

/-- The first failing test of the bank check, with its code (08 R134, 11 R172): 1 MAGIC, 2 COUNT, 3 SIZE. -/
def Bank.checkReason (b : Bank) : Option Byte :=
  if !b.magicOk then some 1
  else if b.headerCount < 1 ∨ 4095 < b.headerCount then some 2
  else if b.headerSize < Config.headerBytes + Config.entryBytes * b.headerCount then some 3
  else none

/-- The check passed (10 R165): the bank is valid and the part enters READY, the scanner active with every position up. -/
def State.begunReady (s : State) : State :=
  let s := s.putBank { s.bank with valid := true, clipCount := s.bank.headerCount, size := s.bank.headerSize }
  let s := s.putScanner { s.scanner with held := [], intervals := [] }
  s.putOp .ready

/-- BANK_CHECK_COMPLETE (08 R134, 10 R165): BEGIN is answered. -/
def execBankCheckComplete (s : State) : Host.Outcome State Fault Refusal :=
  s.occurs s.link.begun.isSome fun s =>
    let tag := s.link.begun.getD 0
    let t := (s.putLink { s.link with begun := none }).spiRead 0
    match t.bank.checkReason with
    | some reason => t.reply ⟨replyKind 0x02, tag, .bankBad, [reason]⟩
    | none => t.begunReady.reply ⟨replyKind 0x02, tag, .ok, le16 t.bank.headerCount⟩

/-! ### DOZE and WAKE (10 R168 to R170) -/

/-- Every source's pending place and backup slot is empty. -/
def State.sourcesEmpty (s : State) : Bool := tieOrder.all fun src => !s.holds src

/-- The conditions of DOZE (10 R168). -/
def State.mayDoze (s : State) : Bool :=
  s.lessonIdle && s.sourcesEmpty && s.arbiter.running.isNone && s.ring.events.isEmpty && !s.intake.passHold

/-- DOZE accepted, after its reply (10 R168): AMP is INACTIVE and the output is at 512 (08 R145, R148), and with a key down the
part wakes at once (log 20). -/
def State.dozeOff (s : State) : State :=
  let s := (s.putVoice { s.voice with amp := .inactive, output := Config.silenceCode }).putOp .doze
  if s.scanner.held.isEmpty then s else s.wakeUp

/-- DOZE (10 R168). -/
def execDoze (tag : Byte) (payload : List Byte) (s : State) : Host.Outcome State Fault Refusal :=
  match s.takeFrame ⟨0x04, tag, payload⟩ with
  | none => .next s
  | some t =>
    if t.op ≠ .ready then .next (t.reply ⟨replyKind 0x04, tag, .state, []⟩)
    else if !payload.isEmpty then .next (t.reply ⟨replyKind 0x04, tag, .length, []⟩)
    else if t.mayDoze then .next (t.reply ⟨replyKind 0x04, tag, .ok, []⟩).dozeOff
    else .next (t.reply ⟨replyKind 0x04, tag, .state, []⟩)

/-- WAKE (10 R170): no WOKE and no quiet marks. -/
def execWake (tag : Byte) (payload : List Byte) (s : State) : Host.Outcome State Fault Refusal :=
  s.command 0x05 tag payload fun s =>
    s.check (decide (s.op = .doze)) .state <|
    s.check payload.isEmpty .length ((s.putOp .ready).accept [])

end Sys2Proof.Machine
end

