-- ==== Sys2Proof/Machine/IntakeKeys.lean ====
section
/-! DEFINITION. The Key Intake (02): the taking of the ring's head for every role, SET_INTAKE and the letter and pass holds. -/

namespace Sys2Proof.Machine

/-! ### Which head may be taken (02 R21, R22) -/

/-- The head of the ring. -/
def State.head (s : State) : Option KeyEvent := s.ring.events.head?

/-- The head's role. -/
def State.headRole (s : State) : Option Role := s.head.map KeyEvent.role

/-- The head leaves the ring (01 R11). -/
def State.popHead (s : State) : State := s.putRing { s.ring with events := s.ring.events.tail }

/-- A PASS head is taken (02 R21). -/
def State.passTakeable (s : State) : Bool :=
  decide (s.op = .ready) && decide (s.headRole = some .pass) && !s.intake.passHold

/-- A non-PASS head is taken and discarded (02 R22). -/
def State.discardable (s : State) : Bool :=
  decide (s.op = .ready) && s.head.isSome && decide (s.headRole ≠ some .pass) && s.lessonIdle && !s.intake.passHold

/-- A head of this role is taken and acted on (02 R22: the intake is TAKING). -/
def State.actsOn (s : State) (r : Role) : Bool :=
  decide (s.op = .ready) && decide (s.headRole = some r) && decide (s.intakeState = .taking)

/-- TAKE_PASS (02 R21, R32, R34). -/
def execTakePass (s : State) : Host.Outcome State Fault Refusal :=
  s.occurs s.passTakeable fun s =>
    match s.head with
    | none => s
    | some e =>
      let t := s.popHead.raise (.keyPass false [⟨e.position, e.symbol, e.edge⟩])
      if t.intake.settings.passHold then t.putIntake { t.intake with passHold := true } else t

/-- DISCARD_HEAD (02 R22). -/
def execDiscardHead (s : State) : Host.Outcome State Fault Refusal := s.occurs s.discardable State.popHead

/-! ### LETTER (02 R24 to R27; 05 R89 to R91) -/

/-- The symbol the guided check expects next; none past the end of the word (02 R26). -/
def expectedSymbol (rule : MarkRule) (target attempt : List Nat) : Option Nat :=
  (reduce rule target)[(reduce rule attempt).length]?

/-- The guided check accepts a symbol (02 R26). -/
def guidedAccepts (rule : MarkRule) (target attempt : List Nat) (sym : Nat) : Bool :=
  (decide (rule = .skip) && isMark sym) || decide (expectedSymbol rule target attempt = some sym)

/-- The letter passes the check in force (02 R24). -/
def State.letterPasses (s : State) (sym : Nat) : Bool :=
  match s.intake.settings.checkMode with
  | .free => true
  | .guided => guidedAccepts s.judge.rule s.target s.intake.attempt sym

/-- An utterance is appended to VERDICT when its list holds fewer than 4 (02 R27, R31). -/
def State.verdictRoom (s : State) : Bool := decide ((s.place .verdict).pending.length < Config.shortListCapacity)

/-- A refusal by the guided check (02 R27). -/
def State.guidedRefusal (s : State) : State :=
  let s := s.mapResult s.cycle.index fun r => { r with refusals := saturatingAdd 255 r.refusals 1 }
  let s := if s.judge.inWindow s.cycle.index then
      s.putJudge { s.judge with letterErrors := tallyAdd s.judge.letterErrors 1 }
    else s
  if s.verdictRoom then s.arrive (compose .verdict .oops [s.phrase .oops]) else s

/-- SNAP reaches the ECHO utterance being spoken (05 R91, 06 R115). -/
def Running.snap (r : Running) : Running :=
  if r.utterance.source = .echo then r.cutDiscard .discardCut else r

/-- The ECHO source receives a new echo under the echo policy (05 R89 to R91). -/
def State.echoOffer (s : State) (u : Utterance) : State :=
  match s.arbiter.echoPolicy with
  | .queue =>
    if (s.place .echo).pending.length < Config.shortListCapacity then s.arrive u else s
  | .latest => (s.putPlace .echo { s.place .echo with pending := [] }).arrive u
  | .snap => ((s.putPlace .echo ⟨[], none⟩).mapRunning Running.snap).arrive u

/-- A symbol has been appended: the echo, the Cue Timer and the letter hold, in this order (02 R25). -/
def State.letterAppended (s : State) (sym : Nat) : State :=
  let s := s.echoOffer (compose .echo .echo [.letter sym])
  let s := s.cueLoad 0
  if s.intake.settings.eachHold then s.putIntake { s.intake with letterHold := true } else s

/-- A letter that passed the check meets the Attempt's length (02 R24). -/
def State.letterTyped (s : State) (sym : Nat) : State :=
  if s.intake.attempt.length < Config.attemptCapacity then
    (s.putIntake { s.intake with attempt := s.intake.attempt ++ [sym] }).letterAppended sym
  else if s.intake.attemptFull then s
  else (s.putIntake { s.intake with attemptFull := true }).raise (.attemptFull s.cycle.index)

/-- TAKE_LETTER (02 R24). -/
def execTakeLetter (s : State) : Host.Outcome State Fault Refusal :=
  s.occurs (s.actsOn .letter) fun s =>
    match s.head with
    | none => s
    | some e =>
      let t := s.popHead
      if t.letterPasses e.symbol then t.letterTyped e.symbol else t.guidedRefusal

/-! ### RUBOUT (02 R28) -/

/-- A pending echo of the symbol. -/
def Utterance.echoes (u : Utterance) (sym : Nat) : Bool := decide (u.kind = .echo ∧ u.items = [.letter sym])

/-- The most recently added echo of the symbol is withdrawn, if there is one (02 R28). -/
def withdrawNewest (sym : Nat) : List Utterance → List Utterance
  | [] => []
  | u :: rest =>
    if rest.any fun v => v.echoes sym then u :: withdrawNewest sym rest
    else if u.echoes sym then rest
    else u :: rest

/-- RUBOUT on the Attempt and the pending echoes (02 R28). -/
def State.rubout (s : State) : State :=
  match s.intake.attempt.getLast? with
  | none => s
  | some sym =>
    let s := s.putIntake { s.intake with attempt := s.intake.attempt.dropLast }
    s.putPlace .echo { s.place .echo with pending := withdrawNewest sym (s.place .echo).pending }

/-- TAKE_RUBOUT (02 R28): in both cases the Cue Timer is restarted with cues-this-stretch kept. -/
def execTakeRubout (s : State) : Host.Outcome State Fault Refusal :=
  s.occurs (s.actsOn .rubout) fun s =>
    let t := s.popHead.rubout
    t.cueLoad t.cue.stretch

/-! ### GO, SPACE and HEAR (02 R29, R30) -/

/-- GO: the Attempt is submitted, or with nothing typed the word is asked for (02 R29). -/
def State.submit (s : State) : State := if s.intake.attempt.isEmpty then s.hearRequest else s.judgingBegin

/-- TAKE_GO (02 R29). -/
def execTakeGo (s : State) : Host.Outcome State Fault Refusal :=
  s.occurs (s.actsOn .go) fun s => s.popHead.submit

/-- TAKE_SPACE (02 R29). -/
def execTakeSpace (s : State) : Host.Outcome State Fault Refusal :=
  s.occurs (s.actsOn .space) fun s =>
    if s.intake.settings.spaceEndsWord then s.popHead.submit else s.popHead

/-- TAKE_HEAR (02 R30). -/
def execTakeHear (s : State) : Host.Outcome State Fault Refusal :=
  s.occurs (s.actsOn .hear) fun s => s.popHead.hearRequest

/-! ### HINT (02 R31) -/

/-- The matched length: how far the attempt agrees with the reference from the front (02 R31). -/
def matchedLength : List Nat → List Nat → Nat
  | a :: as, t :: ts => if a = t then matchedLength as ts + 1 else 0
  | [], _ => 0
  | _ :: _, [] => 0

/-- The symbol a hint would speak: the reference's next after the matched part; none when it is all matched (02 R31). -/
def hintSymbol (rule : MarkRule) (target attempt : List Nat) : Option Nat :=
  (reduce rule target)[matchedLength (reduce rule attempt) (reduce rule target)]?

/-- The hint the word still allows (02 R31). -/
def State.grantedHint (s : State) : Option Nat :=
  if s.currentResult.hints < (s.currentWord.map WordRecord.hintsAllowed).getD 0 then
    hintSymbol s.judge.rule s.target s.intake.attempt
  else none

/-- HINT (02 R31), its three cases. -/
def State.hint (s : State) : State :=
  if s.verdictRoom then
    match s.grantedHint with
    | some sym =>
      (s.mapResult s.cycle.index fun r => { r with hints := r.hints + 1 }).arrive (compose .verdict .hint [.letter sym])
    | none => s.arrive (compose .verdict .hint [s.phrase .noHint])
  else s

/-- TAKE_HINT (02 R31). -/
def execTakeHint (s : State) : Host.Outcome State Fault Refusal :=
  s.occurs (s.actsOn .hint) fun s => s.popHead.hint

/-! ### SET_INTAKE (02 R36) -/

/-- The six settings of the payload; none when a code is undefined. -/
def intakeSettingsOf (p : List Byte) : Option IntakeSettings :=
  match flagOf (field p 0), flagOf (field p 1), flagOf (field p 2), flagOf (field p 3), flagOf (field p 4),
    checkModeOf (field p 5) with
  | some a, some b, some c, some d, some e, some m => some ⟨a, b, c, d, e, m⟩
  | _, _, _, _, _, _ => none

/-- SET_INTAKE (02 R36). -/
def execSetIntake (tag : Byte) (payload : List Byte) (s : State) : Host.Outcome State Fault Refusal :=
  s.command 0x11 tag payload fun s =>
    s.lessonSetting (decide (payload.length = 6)) (intakeSettingsOf payload).isSome <|
      (s.putIntake { s.intake with settings := (intakeSettingsOf payload).getD s.intake.settings }).accept []

/-! ### RELEASE (02 R35, 03 R58) -/

/-- RELEASE LETTER: the letter hold closes, or it is answered NOT_HELD. -/
def State.releaseLetterHold (s : State) : Answer :=
  s.check s.intake.letterHold .notHeld ((s.putIntake { s.intake with letterHold := false }).accept [])

/-- RELEASE PASS: the pass hold closes, or it is answered NOT_HELD. -/
def State.releasePassHold (s : State) : Answer :=
  s.check s.intake.passHold .notHeld ((s.putIntake { s.intake with passHold := false }).accept [])

/-- RELEASE WORD: in phase HELD the word advances, else it is answered NOT_HELD (03 R58). -/
def State.releaseWordHold (s : State) : Answer :=
  s.check (decide (s.cycle.phase = .held)) .notHeld (s.advance.accept [])

/-- A RELEASE frame (02 R35): the operating state, the size, the target code, then the target's own hold. -/
def State.release (s : State) (payload : List Byte) (owner : State → Answer) : Answer :=
  s.check (decide (s.op = .ready)) .state <|
  s.check (decide (payload.length = 1)) .length <|
  s.check (decide (field payload 0 ≤ 2)) .range (owner s)

/-- A RELEASE row with the frames of another row's target left alone (log 11). -/
def State.releaseCommand (s : State) (target : Nat) (tag : Byte) (payload : List Byte) (owner : State → Answer) :
    Host.Outcome State Fault Refusal :=
  if releaseRowFits target payload then s.command 0x27 tag payload fun s => s.release payload owner else .next s

/-- RELEASE_LETTER (02 R35). -/
def execReleaseLetter (tag : Byte) (payload : List Byte) (s : State) : Host.Outcome State Fault Refusal :=
  s.releaseCommand 0 tag payload State.releaseLetterHold

/-- RELEASE_PASS (02 R35). -/
def execReleasePass (tag : Byte) (payload : List Byte) (s : State) : Host.Outcome State Fault Refusal :=
  s.releaseCommand 1 tag payload State.releasePassHold

/-- RELEASE_WORD (03 R58). -/
def execReleaseWord (tag : Byte) (payload : List Byte) (s : State) : Host.Outcome State Fault Refusal :=
  s.releaseCommand 2 tag payload State.releaseWordHold

end Sys2Proof.Machine
end

