-- ==== Sys2Proof/Machine/Judging.lean ====
section
/-! DEFINITION. The Judge's steps (04): the completion of judging, SET_PAIRS, SET_JUDGE, SET_WINDOW and GET_TALLY. -/

namespace Sys2Proof.Machine

/-! ### The completion (04 R74 to R79, 03 R56) -/

/-- The tallies after a completion whose word lies in the window (04 R79). -/
def Judge.tally (j : Judge) (v : Judgement) : Judge :=
  if j.inWindow v.wordIndex then
    { j with
      attemptsJudged := tallyAdd j.attemptsJudged 1
      letterErrors := tallyAdd j.letterErrors v.letterErrors
      exactCount := if v.verdict = .exact then tallyAdd j.exactCount 1 else j.exactCount }
  else j

/-- The result is recorded (03 R56). -/
def ResultRecord.score (r : ResultRecord) (v : Judgement) (triesPerWord : Nat) : ResultRecord :=
  { r with
    last := v.score
    best := max r.best v.score
    state := match v.verdict with
      | .exact => .exact
      | .close => if r.tries < triesPerWord then .opened else .missed
      | .wrong => if r.tries < triesPerWord then .opened else .missed }

/-- The items of a spell-back (05 R97). -/
def State.spellbackItems (s : State) : List Item :=
  [s.phrase .spelled, .word] ++ s.target.map Item.name ++ [.word]

/-- The feedback of a completion (03 R56, 05 R96). -/
def State.feedback (s : State) (v : Verdict) (triesLeft : Bool) : Utterance :=
  match v, triesLeft with
  | .exact, _ => compose .verdict .feedback [s.phrase .praise, .word]
  | .close, true => compose .verdict .feedback [s.phrase .almost, .word]
  | .wrong, true => compose .verdict .feedback [s.phrase .retry, .word]
  | .close, false => compose .verdict .spellback s.spellbackItems
  | .wrong, false => compose .verdict .spellback s.spellbackItems

/-- The controller records the result and places the feedback (03 R56). -/
def State.judged (s : State) (v : Judgement) : State :=
  let triesLeft := decide (s.currentResult.tries < s.cycle.triesPerWord)
  let s := s.mapResult s.cycle.index fun r => r.score v s.cycle.triesPerWord
  let s := if v.verdict ≠ .exact ∧ triesLeft = true then s.clearAttempt else s
  let s := s.arrive (s.feedback v.verdict triesLeft)
  s.putCycle { s.cycle with phase := .feedback }

/-- JUDGING_COMPLETE (04 R74): the last-judged record, the tallies, the controller's part, WORD_JUDGED, and the Judge idle. -/
def execJudgingComplete (s : State) : Host.Outcome State Fault Refusal :=
  s.occurs s.judge.working.isSome fun s =>
    match s.judge.working with
    | none => s
    | some r =>
      let v := judgementOf r s.judge.closeThreshold
      let t := s.putJudge { s.judge.tally v with last := some v, working := none }
      (t.judged v).raise (.wordJudged v.report 1)

/-! ### Settings and tallies -/

/-- The pairs the payload declares (11 R175). -/
def pairsOf (p : List Byte) : List (Nat × Nat) :=
  (records 2 (field p 0) (p.drop 1)).map fun r => (field r 0, field r 1)

/-- SET_PAIRS's size check (04 R65). -/
def pairsSize (p : List Byte) : Bool :=
  decide (1 ≤ p.length ∧ field p 0 ≤ Config.pairCapacity ∧ p.length = 1 + 2 * field p 0)

/-- SET_PAIRS (04 R65). -/
def execSetPairs (tag : Byte) (payload : List Byte) (s : State) : Host.Outcome State Fault Refusal :=
  s.command 0x14 tag payload fun s =>
    s.lessonSetting (pairsSize payload) ((pairsOf payload).all pairOk) <|
      (s.putJudge { s.judge with pairs := addPairs [] (pairsOf payload) }).accept
        [byteOf (addPairs [] (pairsOf payload)).length]

/-- SET_JUDGE (04 R78): the tries-per-word setting goes to the Word Cycle Controller (03 R55). -/
def execSetJudge (tag : Byte) (payload : List Byte) (s : State) : Host.Outcome State Fault Refusal :=
  s.command 0x17 tag payload fun s =>
    s.lessonSetting (decide (payload.length = 3)) (markRuleOf (field payload 2)).isSome <|
      let threshold := clamp 50 99 (field payload 0)
      let tries := clamp 1 7 (field payload 1)
      let s := s.putJudge
        { s.judge with closeThreshold := threshold, rule := (markRuleOf (field payload 2)).getD s.judge.rule }
      (s.putCycle { s.cycle with triesPerWord := tries }).accept [byteOf threshold, byteOf tries]

/-- SET_WINDOW (04 R80): accepted in SETUP and in READY in every lesson state. -/
def execSetWindow (tag : Byte) (payload : List Byte) (s : State) : Host.Outcome State Fault Refusal :=
  s.command 0x2A tag payload fun s =>
    s.check (decide (s.op ≠ .doze)) .state <|
    s.check (decide (payload.length = 2)) .length <|
    s.check (decide (field payload 0 ≤ 31 ∧ 1 ≤ field payload 1 ∧ field payload 1 ≤ 32)) .range <|
      (s.putJudge
        { s.judge with
          windowStart := field payload 0, windowLength := field payload 1
          letterErrors := 0, attemptsJudged := 0, exactCount := 0 }).accept []

/-- GET_TALLY (04 R81). -/
def execGetTally (tag : Byte) (payload : List Byte) (s : State) : Host.Outcome State Fault Refusal :=
  s.command 0x2B tag payload fun s => s.readyBare payload (s.accept s.judge.tallyPayload)

end Sys2Proof.Machine
end

