-- ==== Sys2Proof/Machine/Keys.lean ====
section
/-! DEFINITION. The Key Scanner and the Key Ring (01): SCAN, the completions of debounce intervals, the waking press, and
what SET_KEYS stores. -/

namespace Sys2Proof.Machine

/-- The position's debounced state is down (01 R7). -/
def Scanner.isDown (k : Scanner) (p : Nat) : Bool := k.held.any fun h => decide (h.position = p)

/-- The interval in progress at a position, if any (01 R2). -/
def Scanner.intervalAt (k : Scanner) (p : Nat) : Option Interval := k.intervals.find? fun i => decide (i.position = p)

/-- What one scan does at a position (01 R2, R3): an interval begins, goes on or is abandoned, and completes at a scan at
which the debounce time, five scans a step, has elapsed. An interval that has completed waits for its own step. -/
def Scanner.scanPosition (k : Scanner) (raw : BitVec 64) (p : Nat) : Option Interval :=
  if raw.getLsbD p = k.isDown p then none
  else
    match k.intervalAt p with
    | none => some ⟨p, 0, false⟩
    | some i => some ⟨p, i.age + 1, decide (k.debounce * Config.debounceStep ≤ i.age + 1)⟩

/-- One scan of the 64 positions (01 R1). -/
def Scanner.scan (k : Scanner) (raw : BitVec 64) : Scanner :=
  { k with intervals := (List.range Config.positions).filterMap (k.scanPosition raw) }

/-- SCAN (01 R1): in READY the scanner, in DOZE the wake watch; in SETUP the scanner is off. -/
def execScan (raw : BitVec 64) (s : State) : Host.Outcome State Fault Refusal :=
  s.occurs (decide (s.op ≠ .setup)) fun s => s.putScanner (s.scanner.scan raw)

/-- An entry put into the held set, which is kept in ascending position order (01 R7). -/
def insertHeld (h : HeldEntry) : List HeldEntry → List HeldEntry
  | [] => [h]
  | a :: rest => if h.position < a.position then h :: a :: rest else a :: insertHeld h rest

/-- The interval at a position leaves. -/
def Scanner.dropInterval (k : Scanner) (p : Nat) : Scanner :=
  { k with intervals := k.intervals.filter fun i => decide (i.position ≠ p) }

/-- The position's interval has completed, and no lower position's completion of the same scan still waits (01 R8). -/
def Scanner.completes (k : Scanner) (p : Nat) : Bool :=
  ((k.intervals.filter Interval.due).head?.map Interval.position) == some p

/-- The key record of a position (01 R4). -/
def Scanner.record (k : Scanner) (p : Nat) : KeyRecord := k.keyMap.getD p ⟨.none, 0⟩

/-- The listen-first filter is closed for the role (01 R14). -/
def State.filtered (s : State) (r : Role) : Bool :=
  s.intake.settings.listenFirst && decide (r ≠ .pass) && (s.sounding .word || s.sounding .verdict)

/-- An event is offered to the Key Ring (01 R11, R12, R14). -/
def State.offer (s : State) (e : KeyEvent) : State :=
  if s.filtered e.role then s
  else if s.ring.events.length < Config.ringCapacity then
    s.putRing { s.ring with events := s.ring.events ++ [e] }
  else
    let lost := saturatingAdd Config.lostTop s.ring.lost 1
    (s.putRing { s.ring with lost := lost }).raise (.ringOverrun lost)

/-- A press makes an event (01 R5). -/
def pressMakes (r : Role) (e : PassEdge) : Bool :=
  match r, e with
  | .none, _ => false
  | .pass, .press => true
  | .pass, .both => true
  | .pass, .release => false
  | .letter, _ => true
  | .space, _ => true
  | .go, _ => true
  | .rubout, _ => true
  | .hear, _ => true
  | .hint, _ => true

/-- A release makes an event (01 R6): a PASS key under RELEASE or BOTH. -/
def releaseMakes (r : Role) (e : PassEdge) : Bool :=
  match r, e with
  | .pass, .release => true
  | .pass, .both => true
  | .pass, .press => false
  | .none, _ => false
  | .letter, _ => false
  | .space, _ => false
  | .go, _ => false
  | .rubout, _ => false
  | .hear, _ => false
  | .hint, _ => false

/-- The press is entered in the held set and its interval leaves (01 R5). -/
def Scanner.press (k : Scanner) (p : Nat) : Scanner :=
  let k := k.dropInterval p
  { k with held := insertHeld ⟨p, false⟩ k.held }

/-- The position leaves the held set and its interval leaves (01 R6). -/
def Scanner.release (k : Scanner) (p : Nat) : Scanner :=
  let k := k.dropInterval p
  { k with held := k.held.filter fun h => decide (h.position ≠ p) }

/-- The held-set entry of a position is marked quiet (01 R7). -/
def Scanner.isQuiet (k : Scanner) (p : Nat) : Bool := k.held.any fun h => decide (h.position = p) && h.quiet

/-- PRESS_INTERVAL_COMPLETE (01 R5), in READY. -/
def execPressIntervalComplete (p : Nat) (s : State) : Host.Outcome State Fault Refusal :=
  s.occurs (decide (s.op = .ready) && s.scanner.completes p && !s.scanner.isDown p) fun s =>
    let rec_ := s.scanner.record p
    let t := s.putScanner (s.scanner.press p)
    if pressMakes rec_.role s.scanner.passEdge then t.offer ⟨p, rec_.role, rec_.symbol, .press⟩ else t

/-- RELEASE_INTERVAL_COMPLETE (01 R6): in READY it may make an event, in DOZE it makes none (10 R169). -/
def execReleaseIntervalComplete (p : Nat) (s : State) : Host.Outcome State Fault Refusal :=
  s.occurs (decide (s.op ≠ .setup) && s.scanner.completes p && s.scanner.isDown p) fun s =>
    let rec_ := s.scanner.record p
    let t := s.putScanner (s.scanner.release p)
    if decide (s.op = .ready) && !s.scanner.isQuiet p && releaseMakes rec_.role s.scanner.passEdge then
      t.offer ⟨p, rec_.role, rec_.symbol, .release⟩
    else t

/-- The positions whose press intervals completed at the last scan (10 R169). -/
def Scanner.duePresses (k : Scanner) : List Nat :=
  (k.intervals.filter fun i => i.due && !k.isDown i.position).map Interval.position

/-- WAKING_PRESS (10 R169): in DOZE the completing positions enter the held set and the part wakes. -/
def execWakingPress (s : State) : Host.Outcome State Fault Refusal :=
  s.occurs (decide (s.op = .doze) && !s.scanner.duePresses.isEmpty) fun s =>
    (s.putScanner (s.scanner.duePresses.foldl Scanner.press s.scanner)).wakeUp

/-! ### SET_KEYS (01 R10) -/

/-- The payload is three bytes and a whole, non-zero number of key records (11 R175). -/
def setKeysSize (p : List Byte) : Bool := decide (5 ≤ p.length ∧ (p.length - 3) % 2 = 0)

/-- The key records the payload carries, or none when one is out of range. -/
def setKeysRecords (p : List Byte) : Option (List KeyRecord) :=
  allSome keyRecordOf (records 2 ((p.length - 3) / 2) (p.drop 3))

/-- SET_KEYS's value checks (01 R10). -/
def setKeysValues (p : List Byte) : Bool :=
  (passEdgeOf (field p 1)).isSome && decide (field p 2 ≤ 63) &&
    decide (field p 2 + (p.length - 3) / 2 ≤ Config.positions) && (setKeysRecords p).isSome

/-- What an accepted SET_KEYS stores (01 R10). -/
def Scanner.configure (k : Scanner) (p : List Byte) : Scanner :=
  { k with
    debounce := clamp 1 8 (field p 0)
    passEdge := (passEdgeOf (field p 1)).getD k.passEdge
    keyMap := splice k.keyMap (field p 2) ((setKeysRecords p).getD []) }

/-- SET_KEYS, in the order of 01 R10: where it is not accepted, in DOZE or with a lesson under way, STATE; then the size; then
the values. -/
def execSetKeys (tag : Byte) (payload : List Byte) (s : State) : Host.Outcome State Fault Refusal :=
  s.command 0x10 tag payload fun s =>
    s.check (decide (s.op ≠ .doze) && s.lessonIdle) .state <|
    s.check (setKeysSize payload) .length <|
    s.check (setKeysValues payload) .range <|
      let t := s.putScanner (s.scanner.configure payload)
      t.accept [byteOf t.scanner.debounce]

end Sys2Proof.Machine
end

