-- ==== Sys2Proof/Machine/Lesson.lean ====
section
/-! DEFINITION. The Word Cycle Controller's commands (03): LOAD_WORDS, CLEAR_WORDS, the lesson commands and GET_RESULTS, and
GET_ATTEMPT (02 R37). -/

namespace Sys2Proof.Machine

/-! ### Loading and clearing (03 R42 to R44) -/

/-- The word records the payload declares, as bytes. -/
def loadRecords (p : List Byte) : List (List Byte) := records 26 (field p 0) (p.drop 1)

/-- LOAD_WORDS's size check (03 R42, 11 R175). -/
def loadSize (p : List Byte) : Bool :=
  decide (1 ≤ p.length ∧ 1 ≤ field p 0 ∧ field p 0 ≤ 8 ∧ p.length = 1 + 26 * field p 0)

/-- An accepted LOAD_WORDS (03 R43). -/
def State.load (s : State) (p : List Byte) : State :=
  s.putCycle { s.cycle with words := s.cycle.words ++ (loadRecords p).map wordRecordOf, lesson := .loaded }

/-- LOAD_WORDS, its checks in the order of 03 R42. -/
def execLoadWords (tag : Byte) (payload : List Byte) (s : State) : Host.Outcome State Fault Refusal :=
  s.command 0x20 tag payload fun s =>
    s.check (decide (s.op = .ready)) .state <|
    s.check (loadSize payload) .length <|
    s.check s.lessonIdle .state <|
    s.check ((loadRecords payload).all wordRecordOk) .range <|
    s.check (decide (s.cycle.words.length + field payload 0 ≤ Config.tableCapacity)) .full <|
      (s.load payload).accept [byteOf (s.load payload).cycle.words.length]

/-- CLEAR_WORDS (03 R44). -/
def execClearWords (tag : Byte) (payload : List Byte) (s : State) : Host.Outcome State Fault Refusal :=
  s.command 0x21 tag payload fun s =>
    s.readyBare payload <|
    s.check s.lessonIdle .state <|
      (s.putCycle { s.cycle with words := [], results := clearResults, index := 0, lesson := .empty }).accept []

/-! ### The lesson commands (03 R45 to R51) -/

/-- The checks of the lesson commands (03 R45): operating state, size, lesson state. -/
def State.lessonCommand (s : State) (payload : List Byte) (size : Nat) (lessonOk : Bool) (k : Answer) : Answer :=
  s.check (decide (s.op = .ready)) .state <|
  s.check (decide (payload.length = size)) .length <|
  s.check lessonOk .state k

/-- The index names a loaded word (03 R45). -/
def State.indexOk (s : State) (i : Nat) : Bool := decide (i < s.cycle.words.length)

/-- An accepted START (03 R46). -/
def State.startLesson (s : State) (i : Nat) : State :=
  let s := s.putCycle { s.cycle with results := clearResults, lesson := .running }
  let s := s.putJudge { s.judge with last := none }
  s.wordBegin i

/-- START (03 R46). -/
def execStart (tag : Byte) (payload : List Byte) (s : State) : Host.Outcome State Fault Refusal :=
  s.command 0x22 tag payload fun s =>
    s.lessonCommand payload 1 (decide (s.cycle.lesson = .loaded ∨ s.cycle.lesson = .finished)) <|
    s.check (s.indexOk (field payload 0)) .range <|
      (s.startLesson (field payload 0)).accept []

/-- The pause cut (06 R116): a PLAYING lesson utterance fades with restore. -/
def Running.pauseCut (r : Running) : Running := if r.utterance.source.isLesson then r.cutRestore else r

/-- PAUSE (03 R47, 06 R116). -/
def execPause (tag : Byte) (payload : List Byte) (s : State) : Host.Outcome State Fault Refusal :=
  s.command 0x23 tag payload fun s =>
    s.lessonCommand payload 0 (decide (s.cycle.lesson = .running)) <|
      ((s.putCycle { s.cycle with lesson := .paused }).mapRunning Running.pauseCut).accept []

/-- RESUME (03 R48): the lesson sources become eligible, so the cut-in test is made (06 R111). -/
def execResume (tag : Byte) (payload : List Byte) (s : State) : Host.Outcome State Fault Refusal :=
  s.command 0x24 tag payload fun s =>
    s.lessonCommand payload 0 (decide (s.cycle.lesson = .paused)) <|
      (s.putCycle { s.cycle with lesson := .running }).cutInTest.accept []

/-- An accepted STOP (03 R50). -/
def State.stopLesson (s : State) : State :=
  let s := s.abandonJudging
  let s := s.mapResult s.cycle.index ResultRecord.skipOpen
  let s := s.sweep.clearAttempt.cueStop
  s.putCycle { s.cycle with phase := .none, lesson := .loaded }

/-- STOP (03 R50). -/
def execStop (tag : Byte) (payload : List Byte) (s : State) : Host.Outcome State Fault Refusal :=
  s.command 0x25 tag payload fun s =>
    s.lessonCommand payload 0 s.cycle.lesson.current (s.stopLesson.accept [])

/-- An accepted GOTO (03 R51). -/
def State.gotoWord (s : State) (i : Nat) : State :=
  let s := s.abandonJudging
  let s := s.mapResult s.cycle.index ResultRecord.skipOpen
  s.cueStop.wordBegin i

/-- GOTO (03 R51). -/
def execGoto (tag : Byte) (payload : List Byte) (s : State) : Host.Outcome State Fault Refusal :=
  s.command 0x26 tag payload fun s =>
    s.lessonCommand payload 1 s.cycle.lesson.current <|
    s.check (s.indexOk (field payload 0)) .range <|
      (s.gotoWord (field payload 0)).accept []

/-! ### Queries -/

/-- GET_RESULTS (03 R60). -/
def execGetResults (tag : Byte) (payload : List Byte) (s : State) : Host.Outcome State Fault Refusal :=
  s.command 0x29 tag payload fun s =>
    s.check (decide (s.op = .ready)) .state <|
    s.check (decide (payload.length = 2)) .length <|
    s.check (decide (field payload 0 ≤ 31 ∧ 1 ≤ field payload 1 ∧ field payload 1 ≤ 32 ∧
      field payload 0 + field payload 1 ≤ 32)) .range <|
      s.accept (s.cycle.resultsPayload (field payload 0) (field payload 1))

/-- GET_ATTEMPT (02 R37). -/
def execGetAttempt (tag : Byte) (payload : List Byte) (s : State) : Host.Outcome State Fault Refusal :=
  s.command 0x28 tag payload fun s => s.readyBare payload (s.accept s.attemptPayload)

end Sys2Proof.Machine
end

