-- ==== Sys2Proof/Machine/LinkPort.lean ====
section
/-! DEFINITION. The Link Port's steps (09): the receive assembler, the inbox, the inter-byte timer, the transmitter and the
refusal of unknown commands. -/

namespace Sys2Proof.Machine

/-! ### The receive assembler (09 R152) -/

/-- What a byte brings about besides the assembler's own change. -/
inductive Received where
  | nothing
  | good (body : List Byte)
  | bad (cause : LinkCause)
  deriving DecidableEq, Repr

/-- One byte in the receive assembler, the table of 09 R152. -/
def Assembler.take (a : Assembler) (b : Byte) : Assembler × Received :=
  match a.state with
  | .hunt => if b = Config.sync then (⟨.length, [], 0, 0, 0⟩, .nothing) else (a, .nothing)
  | .length =>
    if 2 ≤ b.toNat ∧ b.toNat ≤ 250 then (⟨.body, [], b, b.toNat, 0⟩, .nothing)
    else (Assembler.idle, .bad .len)
  | .body =>
    (⟨if a.expected ≤ 1 then .check else .body, a.body ++ [b], a.sum + b, a.expected - 1, 0⟩, .nothing)
  | .check => (Assembler.idle, if a.sum + b = 0 then .good a.body else .bad .check)

/-- The frame of a good body: the kind code, the tag and the payload (09 R150). -/
def frameOf (body : List Byte) : HostFrame := ⟨body.getD 0 0, body.getD 1 0, body.drop 2⟩

/-- A good frame is offered to the inbox (09 R154): appended, or discarded with an OVERFLOW reply when a reply place is
free. -/
def State.offerFrame (s : State) (f : HostFrame) : State :=
  if s.link.inbox.length < Config.inboxCapacity then
    s.putLink { s.link with inbox := s.link.inbox ++ [f] }
  else if s.link.replyPlaceFree then s.reply ⟨replyKind f.kind, f.tag, .overflow, []⟩
  else s

/-- A byte is taken by the assembler (09 R152, R153). -/
def State.receive (s : State) (b : Byte) : State :=
  let t := s.putLink { s.link with assembler := (s.link.assembler.take b).1 }
  match (s.link.assembler.take b).2 with
  | .nothing => t
  | .good body => t.offerFrame (frameOf body)
  | .bad cause => t.raise (.linkError cause 1)

/-- RECEIVED_BYTE (09 R152): the whole table, whatever the assembler's state (log 14). -/
def execReceivedByte (b : Byte) (s : State) : Host.Outcome State Fault Refusal :=
  s.occurs true fun s => s.receive b

/-- FRAME_RECEIVED (09 R152): the byte completes or rejects a frame; with any other byte this step does not occur. -/
def execFrameReceived (b : Byte) (s : State) : Host.Outcome State Fault Refusal :=
  s.occurs (decide ((s.link.assembler.take b).2 ≠ .nothing)) fun s => s.receive b

/-- INTER_BYTE_TIMEOUT (09 R152): inside a frame the partial frame is discarded. -/
def execInterByteTimeout (s : State) : Host.Outcome State Fault Refusal :=
  s.occurs (decide (s.link.assembler.state ≠ .hunt)) fun s =>
    (s.putLink { s.link with assembler := Assembler.idle }).raise (.linkError .timeout 1)

/-! ### The transmitter (09 R159, R160; 01 R13) -/

/-- The oldest waiting frame goes into transmission. -/
def Link.transmitOldest (l : Link) : Link :=
  match l.outbox with
  | [] => l
  | f :: rest => { l with transmitting := some f, outbox := rest }

/-- TRANSMIT_BEGIN (09 R159): the transmitter is idle and a frame waits. -/
def execTransmitBegin (s : State) : Host.Outcome State Fault Refusal :=
  s.occurs (s.link.transmitting.isNone && !s.link.outbox.isEmpty) fun s => s.putLink s.link.transmitOldest

/-- The frame's place is freed, and a held notice of its kind enters at the tail (09 R160). -/
def Link.complete (l : Link) (f : OutFrame) : Link :=
  match l.held with
  | none => { l with transmitting := none }
  | some h =>
    if f.hasKind h.kind then { l with transmitting := none, held := none, outbox := l.outbox ++ [.notice h] }
    else { l with transmitting := none }

/-- A notice held behind a RING_OVERRUN transmission after the reduction of the lost-event count (01 R13): its count is
replaced, or it is dropped with nothing left untold; with no notice held a new one stands for what is left. -/
def heldOverrun (lost : Nat) (held : Option Notice) : Option Notice :=
  match held with
  | some (.ringOverrun _) => if lost = 0 then none else some (.ringOverrun lost)
  | some h => some h
  | none => if lost = 0 then none else some (.ringOverrun lost)

/-- The completion of a frame's transmission (09 R159, 01 R13): the reduction is made before a held notice enters. -/
def State.transmitted (s : State) (f : OutFrame) : State :=
  match f with
  | .notice (.ringOverrun carried) =>
    let lost := s.ring.lost - carried
    let t := s.putRing { s.ring with lost := lost }
    t.putLink (({ t.link with held := heldOverrun lost t.link.held }).complete f)
  | .notice _ => s.putLink (s.link.complete f)
  | .reply _ => s.putLink (s.link.complete f)

/-- TRANSMIT_COMPLETE (09 R159). -/
def execTransmitComplete (s : State) : Host.Outcome State Fault Refusal :=
  s.occurs s.link.transmitting.isSome fun s =>
    match s.link.transmitting with
    | none => s
    | some f => s.transmitted f

/-! ### UNKNOWN_COMMAND (09 R156, R157) -/

/-- UNKNOWN_COMMAND (09 R156): a frame whose kind code names no command. -/
def execUnknownCommand (kind tag : Byte) (payload : List Byte) (s : State) : Host.Outcome State Fault Refusal :=
  if knownKind kind then .next s else s.command kind tag payload fun s => s.refuse .unknown

end Sys2Proof.Machine
end

