-- ==== Sys2Proof/Machine/Engine.lean ====
section
/-! DEFINITION. The Voice Engine and the Bank Reader (08): clip lookup, item resolution, automatic gaps, the item cursor and
the output arithmetic. -/

namespace Sys2Proof.Machine

/-! ### Resolving an item (08 R135, R137 to R139) -/

/-- The letter voice map entry of a symbol 1 to 28 (08 R137). -/
def Voice.entry (v : Voice) (sym : Nat) : MapEntry := v.letterMap.getD (sym - 1) ⟨.name, 0, 0, 0, 0⟩

/-- The clip a LETTER item speaks in the echo style in force; 0 for mode SILENT (08 R138). -/
def Voice.letterClip (v : Voice) (sym : Nat) : Nat :=
  let e := v.entry sym
  match v.echoStyle with
  | .names => e.nameClip
  | .sounds => e.soundClip
  | .perLetter =>
    match e.mode with
    | .name => e.nameClip
    | .sound => e.soundClip
    | .fixed => e.fixedClip
    | .silent => 0

/-- The current word's clip of one kind; 0 when no word is current (08 R138). -/
def State.wordField (s : State) (f : WordRecord → Nat) : Nat :=
  if s.cycle.lesson.current then (s.currentWord.map f).getD 0 else 0

/-- What an item resolves to (08 R138): a clip number, of which 0 is a skip, or a silence in samples. -/
inductive Resolution where
  | clip (k : Nat)
  | silence (samples : Nat)
  deriving DecidableEq, Repr

/-- Resolution of an item at the moment it is reached (08 R138). -/
def State.resolve (s : State) : Item → Resolution
  | .clip n => .clip n
  | .letter sym => .clip (s.voice.letterClip sym)
  | .name sym => .clip (s.voice.entry sym).nameClip
  | .word => .clip (s.wordField WordRecord.wordClip)
  | .sentence => .clip (s.wordField WordRecord.sentenceClip)
  | .gap n => .silence (n * Config.gapUnit)

/-- The samples a trim takes from an item (08 R139): LETTER and NAME items only. -/
def State.trimSamples (s : State) : Item → Nat
  | .letter sym => (s.voice.entry sym).trim * Config.trimUnit
  | .name sym => (s.voice.entry sym).trim * Config.trimUnit
  | .clip _ => 0
  | .word => 0
  | .sentence => 0
  | .gap _ => 0

/-- The first byte past the header and the directory (08 R134, R135). -/
def directoryEnd (clipCount : Nat) : Nat := Config.headerBytes + Config.entryBytes * clipCount

/-- The address of clip k's directory entry (08 R133). -/
def entryAddress (k : Nat) : Nat := Config.headerBytes + Config.entryBytes * (k - 1)

/-- The start address and length of a good clip; none for a bad one (08 R135). -/
def Bank.lookup (b : Bank) (k : Nat) : Option (Nat × Nat) :=
  let start := flashField b.flash (entryAddress k) 3
  let length := flashField b.flash (entryAddress k + 3) 2
  if k ≤ b.clipCount ∧ length ≠ 0 ∧ start + length ≤ b.size ∧ directoryEnd b.clipCount ≤ start then some (start, length)
  else none

/-- The Bank Reader reads clip k's entry; past the clip count no entry is read (08 R135). -/
def State.readEntry (s : State) (k : Nat) : State :=
  if k ≤ s.bank.clipCount then s.spiRead (entryAddress k) else s

/-! ### Automatic gaps (08 R141) -/

/-- The class of an item as a previous item (08 R142). -/
def Item.cls : Item → ItemClass
  | .letter _ => .letterItem
  | .name _ => .letterItem
  | .clip _ => .otherClip
  | .word => .otherClip
  | .sentence => .otherClip
  | .gap _ => .gapItem

/-- The samples of the automatic gap before a clip item (08 R141). -/
def Voice.gapSamples (v : Voice) (previous : Option ItemClass) (item : Item) : Nat :=
  match previous, item.cls with
  | none, _ => 0
  | some .gapItem, _ => 0
  | some .letterItem, .letterItem => v.letterGap * Config.gapUnit
  | some .otherClip, .letterItem => v.leadGap * Config.gapUnit
  | some .letterItem, .otherClip => v.itemGap * Config.gapUnit
  | some .otherClip, .otherClip => v.itemGap * Config.gapUnit
  | some .letterItem, .gapItem => 0
  | some .otherClip, .gapItem => 0

/-! ### Reaching items (08 R140, R142) -/

/-- The engine reaches the items from `index` on: it passes over skipped items, raising FAULT for each bad clip, and over
clips that the trim covers whole, and stops at the first item that takes time. None: the items are exhausted. -/
def State.reach (s : State) (index : Nat) (previous : Option ItemClass) : List Item → State × Option Cursor
  | [] => (s, none)
  | item :: rest =>
    match s.resolve item with
    | .silence n => (s, some ⟨index, .gapItem, n, 0, 0, previous⟩)
    | .clip 0 => s.reach (index + 1) previous rest
    | .clip (k + 1) =>
      let s := s.readEntry (k + 1)
      match s.bank.lookup (k + 1) with
      | none => (s.raise (.fault (k + 1) 1)).reach (index + 1) previous rest
      | some (start, length) =>
        let trim := s.trimSamples item
        let gap := s.voice.gapSamples previous item
        if gap ≠ 0 then (s, some ⟨index, .automaticGap, gap, start + trim, length - trim, previous⟩)
        else if length - trim ≠ 0 then
          (s.spiRead (start + trim), some ⟨index, .clip, length - trim, start + trim, length - trim, previous⟩)
        else s.reach (index + 1) (some item.cls) rest

/-- The running utterance takes its new cursor. -/
def State.setCursor (s : State) (c : Cursor) : State := s.mapRunning fun r => { r with cursor := c }

/-- The engine reaches the items of an utterance from an index; when they are exhausted the utterance ends DONE
(06 R117). -/
def State.playFrom (s : State) (u : Utterance) (index : Nat) (previous : Option ItemClass) : State :=
  match s.reach index previous (u.items.drop index) with
  | (t, some c) => t.setCursor c
  | (t, none) => t.endRunning u .done

/-- The stage's samples have run out (08 R142): the clip follows its automatic gap, or the next item is reached. -/
def State.nextStage (s : State) (r : Running) : State :=
  match r.cursor.stage with
  | .automaticGap =>
    if r.cursor.clipLength ≠ 0 then
      (s.spiRead r.cursor.bankPosition).setCursor { r.cursor with stage := .clip, samplesLeft := r.cursor.clipLength }
    else s.playFrom r.utterance (r.cursor.index + 1) ((r.utterance.items[r.cursor.index]?).map Item.cls)
  | .clip => s.playFrom r.utterance (r.cursor.index + 1) ((r.utterance.items[r.cursor.index]?).map Item.cls)
  | .gapItem => s.playFrom r.utterance (r.cursor.index + 1) ((r.utterance.items[r.cursor.index]?).map Item.cls)

/-! ### The output code (08 R143, R144) -/

/-- A value held within -512 to 511 and offset to the code range (08 R143). -/
def codeOf (v : Int) : Nat := (max (-512) (min 511 v) + 512).toNat

/-- The output code of a playing sample (08 R143); Int division by a positive number is floor. -/
def playCode (sample : Int) (gain : Nat) : Nat := codeOf ((sample * gain + 16) / 32)

/-- The output code of fade sample k, 1 to 32 (08 R144). -/
def fadeCode (sample : Int) (gain k : Nat) : Nat := codeOf ((sample * gain * (32 - k : Int) + 512) / 1024)

/-- The sample at the cursor: the clip's next sample, or silence in a gap and past the clip's end (08 R143, R144). -/
def State.cursorSample (s : State) (c : Cursor) : Int :=
  match c.stage with
  | .clip => if c.samplesLeft = 0 then 0 else (flashRead s.bank.flash c.bankPosition).toInt
  | .automaticGap => 0
  | .gapItem => 0

/-- The cursor after one sample was given. -/
def Cursor.advance (c : Cursor) : Cursor :=
  match c.stage with
  | .clip =>
    if c.samplesLeft = 0 then c
    else { c with samplesLeft := c.samplesLeft - 1, bankPosition := c.bankPosition + 1 }
  | .automaticGap => { c with samplesLeft := c.samplesLeft - 1 }
  | .gapItem => { c with samplesLeft := c.samplesLeft - 1 }

/-- One sample period of the running utterance (08 R143, R144). A stage or a fade that has run out gives no sample: its end
is the next step (log 16). -/
def State.giveSample (s : State) (r : Running) : State :=
  match r.state with
  | .playing =>
    if r.cursor.samplesLeft = 0 then s
    else
      (s.putVoice { s.voice with output := playCode (s.cursorSample r.cursor) s.voice.gain }).setCursor r.cursor.advance
  | .fading k n =>
    if n < Config.fadeLength then
      (s.putVoice { s.voice with output := fadeCode (s.cursorSample r.cursor) s.voice.gain (n + 1) }).mapRunning
        fun r => { r with state := .fading k (n + 1), cursor := r.cursor.advance }
    else s

end Sys2Proof.Machine
end

