-- ==== Sys2Proof/Machine/Speech.lean ====
section
/-! DEFINITION. The arbiter's and the engine's steps (06, 08) and the host's speech commands (05): the start of an utterance,
the ends of stages, fades and the AMP hold, the sample period, SAY, SAY_NOW, CUT, FLUSH, SET_PHRASES, SET_SOURCES, SET_VOICE
and SET_LETTERS. -/

namespace Sys2Proof.Machine

/-! ### UTTERANCE_START (06 R108) -/

/-- The utterance a source hands over, whether it came from the pending place, and the place it leaves (06 R108): the backup
first, else the head. -/
def Place.handOver (p : Place) : Option (Utterance × Bool × Place) :=
  match p.backup, p.pending with
  | some u, _ => some (u, false, { p with backup := none })
  | none, u :: rest => some (u, true, { p with pending := rest })
  | none, [] => none

/-- The utterance enters the running place PLAYING, to be played from its resume index, and AMP becomes ACTIVE
(06 R108, 08 R142, R145). -/
def State.enterRunning (s : State) (u : Utterance) : State :=
  let s := s.putArbiter { s.arbiter with running := some ⟨u, .playing, ⟨u.resume, .gapItem, 0, 0, 0, none⟩⟩ }
  s.putVoice { s.voice with amp := .active }

/-- The reports of a start (06 R108): a WORD_PROMPT to the controller (03 R53), and QUEUE_LOW when a start from the QUEUE list
brings its level down to the low mark (05 R92). -/
def State.startReports (s : State) (u : Utterance) (fromPending : Bool) : State :=
  let s := if u.kind = .wordPrompt then s.promptStarted else s
  if u.source = .queue ∧ fromPending = true ∧ (s.place .queue).pending.length = s.arbiter.lowMark then
    s.raise (.queueLow (s.place .queue).pending.length)
  else s

/-- A chosen source's utterance starts (06 R108): the reports, then the engine reaches its first item (log 12), then the
cut-in test (06 R111). -/
def State.startFrom (s : State) (src : Source) : State :=
  match (s.place src).handOver with
  | none => s
  | some (u, fromPending, rest) =>
    let s := (s.putPlace src rest).enterRunning u
    ((s.startReports u fromPending).playFrom u u.resume none).cutInTest

/-- UTTERANCE_START (06 R108): with the running place empty, the arbiter chooses. -/
def execUtteranceStart (s : State) : Host.Outcome State Fault Refusal :=
  s.occurs (s.arbiter.running.isNone && s.choice.isSome) fun s =>
    match s.choice with
    | none => s
    | some src => s.startFrom src

/-! ### Stage, fade, sample and hold -/

/-- The stage of a PLAYING utterance has run out (08 R142). -/
def Running.stageOver (r : Running) : Bool := decide (r.state = .playing) && decide (r.cursor.samplesLeft = 0)

/-- STAGE_END (08 R142). -/
def execStageEnd (s : State) : Host.Outcome State Fault Refusal :=
  s.occurs ((s.arbiter.running.map Running.stageOver).getD false) fun s =>
    match s.arbiter.running with
    | none => s
    | some r => s.nextStage r

/-- What a fade's end does (06 R112, R114): RESTORE puts the utterance into its own source's backup slot, which is empty;
a discard ends it. -/
def State.fadeOver (s : State) (u : Utterance) (k : FadeKind) : State :=
  match k with
  | .restore => (s.putPlace u.source { s.place u.source with backup := some u }).vacate
  | .discardCut => s.endRunning u .cut
  | .discardStopped => s.endRunning u .stopped

/-- The fade's 32 samples have been given (06 R106). -/
def Running.fadeDone (r : Running) : Bool :=
  match r.state with
  | .playing => false
  | .fading _ n => decide (Config.fadeLength ≤ n)

/-- FADE_END (06 R112). -/
def execFadeEnd (s : State) : Host.Outcome State Fault Refusal :=
  s.occurs ((s.arbiter.running.map Running.fadeDone).getD false) fun s =>
    match s.arbiter.running with
    | none => s
    | some r =>
      match r.state with
      | .playing => s
      | .fading k _ => s.fadeOver r.utterance k

/-- SAMPLE_PERIOD (08 R143, R144): the code is 512 while no utterance is PLAYING or FADING. -/
def execSamplePeriod (s : State) : Host.Outcome State Fault Refusal :=
  s.occurs true fun s =>
    match s.arbiter.running with
    | none => s.putVoice { s.voice with output := Config.silenceCode }
    | some r => s.giveSample r

/-- AMP is HOLDING. -/
def Amp.isHolding : Amp → Bool
  | .holding _ => true
  | .inactive => false
  | .active => false

/-- AMP_HOLD_END (08 R145). -/
def execAmpHoldEnd (s : State) : Host.Outcome State Fault Refusal :=
  s.occurs s.voice.amp.isHolding fun s => s.putVoice { s.voice with amp := .inactive }

/-! ### SAY and SAY_NOW (05 R98, R99; 11 R173) -/

/-- The items the payload declares; none when one is out of range. -/
def itemsOf (p : List Byte) : Option (List Item) := allSome itemOf (records 3 (field p 1) (p.drop 2))

/-- The size check (05 R98, 11 R173). -/
def sayPayloadSize (p : List Byte) : Bool := decide (2 ≤ p.length ∧ p.length = 2 + 3 * field p 1)

/-- The value checks (05 R98): the item count, the notify flag and the items. -/
def sayValues (p : List Byte) : Bool :=
  decide (1 ≤ field p 1 ∧ field p 1 ≤ Config.itemCapacity) && (flagOf (field p 0)).isSome && (itemsOf p).isSome

/-- The HOST utterance a payload makes (05 R98, R99). -/
def hostUtterance (src : Source) (tag : Byte) (p : List Byte) : Utterance :=
  ⟨src, .host, tag, (flagOf (field p 0)).getD false, (itemsOf p).getD [], 0⟩

/-- The shared checks of SAY and SAY_NOW in the order of 05 R98, the capacity last. -/
def State.sayChecks (s : State) (payload : List Byte) (room : Bool) (r : ResultCode) (k : Answer) : Answer :=
  s.check (decide (s.op = .ready)) .state <|
  s.check (sayPayloadSize payload) .length <|
  s.check (sayValues payload) .range <|
  s.check room r k

/-- SAY (05 R98). -/
def execSay (tag : Byte) (payload : List Byte) (s : State) : Host.Outcome State Fault Refusal :=
  s.command 0x30 tag payload fun s =>
    s.sayChecks payload (decide ((s.place .queue).pending.length < Config.queueCapacity)) .full <|
      let t := s.arrive (hostUtterance .queue tag payload)
      t.accept [byteOf (t.place .queue).pending.length]

/-- SAY_NOW (05 R99). -/
def execSayNow (tag : Byte) (payload : List Byte) (s : State) : Host.Outcome State Fault Refusal :=
  s.command 0x31 tag payload fun s =>
    s.sayChecks payload (s.place .now).pending.isEmpty .occupied <|
      (s.arrive (hostUtterance .now tag payload)).accept []

/-! ### CUT and FLUSH (05 R101, R102) -/

/-- CUT's reply: whether an utterance was running, its source and its tag (05 R101, 11 R176). -/
def State.cutPayload (s : State) : List Byte :=
  match s.arbiter.running with
  | none => [0, 0, 0]
  | some r => [1, r.utterance.source.code, r.utterance.tag]

/-- CUT (05 R101). -/
def execCut (tag : Byte) (payload : List Byte) (s : State) : Host.Outcome State Fault Refusal :=
  s.command 0x32 tag payload fun s =>
    s.readyBare payload ((s.mapRunning fun r => r.cutDiscard .discardCut).accept s.cutPayload)

/-- The utterances FLUSH removes, in its order (05 R102). -/
def State.flushed (s : State) : List Utterance :=
  (s.place .now).backup.toList ++ (s.place .now).pending ++ (s.place .queue).backup.toList ++ (s.place .queue).pending

/-- A removed utterance with notify yes raises its SAID entry (05 R102, R103). -/
def State.reportFlushed (s : State) (u : Utterance) : State :=
  if u.notify then s.raise (.said false [⟨u.tag, .flushed⟩]) else s

/-- An accepted FLUSH (05 R102). -/
def State.flushHost (s : State) : State :=
  let t := (s.putPlace .now ⟨[], none⟩).putPlace .queue ⟨[], none⟩
  s.flushed.foldl State.reportFlushed t

/-- FLUSH (05 R102). -/
def execFlush (tag : Byte) (payload : List Byte) (s : State) : Host.Outcome State Fault Refusal :=
  s.command 0x33 tag payload fun s =>
    s.readyBare payload (s.flushHost.accept [byteOf s.flushed.length])

/-! ### Settings -/

/-- SET_PHRASES (05 R95): accepted in every operating state and lesson state. -/
def execSetPhrases (tag : Byte) (payload : List Byte) (s : State) : Host.Outcome State Fault Refusal :=
  s.command 0x13 tag payload fun s =>
    s.check (decide (payload.length = 16)) .length <|
      (s.putSources { s.sources with phrases := (List.range 8).map fun i => field16 payload (2 * i) }).accept []

/-- The setting of the source at place `i` of the tie order: a level above 3 is stored as 3 (06 R119). -/
def settingAt (p : List Byte) (i : Nat) : SourceSetting :=
  ⟨min 3 (field p (2 * i)), (flagOf (field p (2 * i + 1))).getD false⟩

/-- SET_SOURCES's value checks (06 R119). -/
def sourcesValues (p : List Byte) : Bool :=
  ((List.range 6).all fun i => (flagOf (field p (2 * i + 1))).isSome) && (echoPolicyOf (field p 12)).isSome

/-- What an accepted SET_SOURCES stores (06 R119). -/
def Arbiter.configure (a : Arbiter) (p : List Byte) : Arbiter :=
  { a with
    settings := ⟨settingAt p 0, settingAt p 1, settingAt p 2, settingAt p 3, settingAt p 4, settingAt p 5⟩
    echoPolicy := (echoPolicyOf (field p 12)).getD a.echoPolicy
    lowMark := min 15 (field p 13) }

/-- SET_SOURCES (06 R119): the cut-in test is made at acceptance (06 R120). -/
def execSetSources (tag : Byte) (payload : List Byte) (s : State) : Host.Outcome State Fault Refusal :=
  s.command 0x15 tag payload fun s =>
    s.lessonSetting (decide (payload.length = 14)) (sourcesValues payload) <|
      let a := s.arbiter.configure payload
      (s.putArbiter a).cutInTest.accept
        ((tieOrder.map fun src => byteOf (a.settings.get src).level) ++ [byteOf a.lowMark])

/-- SET_VOICE (08 R146): accepted in every operating state and lesson state. -/
def execSetVoice (tag : Byte) (payload : List Byte) (s : State) : Host.Outcome State Fault Refusal :=
  s.command 0x18 tag payload fun s =>
    s.check (decide (payload.length = 5)) .length <|
    s.check (echoStyleOf (field payload 4)).isSome .range <|
      (s.putVoice
        { s.voice with
          gain := field payload 0, itemGap := field payload 1, leadGap := field payload 2
          letterGap := field payload 3, echoStyle := (echoStyleOf (field payload 4)).getD s.voice.echoStyle }).accept []

/-- The map entries the payload carries; none when a mode is undefined (08 R147). -/
def mapEntriesOf (p : List Byte) : Option (List MapEntry) :=
  allSome mapEntryOf (records 8 ((p.length - 1) / 8) (p.drop 1))

/-- SET_LETTERS's size check (08 R147, 11 R175). -/
def lettersSize (p : List Byte) : Bool := decide (9 ≤ p.length ∧ (p.length - 1) % 8 = 0)

/-- SET_LETTERS's value checks (08 R147). -/
def lettersValues (p : List Byte) : Bool :=
  isSymbol (field p 0) && decide (field p 0 + (p.length - 1) / 8 ≤ 29) && (mapEntriesOf p).isSome

/-- SET_LETTERS (08 R147). -/
def execSetLetters (tag : Byte) (payload : List Byte) (s : State) : Host.Outcome State Fault Refusal :=
  s.command 0x12 tag payload fun s =>
    s.lessonSetting (lettersSize payload) (lettersValues payload) <|
      (s.putVoice
        { s.voice with
          letterMap := splice s.voice.letterMap (field payload 0 - 1) ((mapEntriesOf payload).getD []) }).accept []

end Sys2Proof.Machine
end

