-- ==== Sys2Proof/Machine/Timer.lean ====
section
/-! DEFINITION. The Cue Timer's steps (07): the decrement, the expiry and SET_CUE. -/

namespace Sys2Proof.Machine

/-- CUE_DECREMENT (07 R124): only a COUNTING timer decrements. The decrement from 1 to 0 is an expiry (07 R128), and so the step
CUE_EXPIRY and not this one (log 7). The lock may come on; it can not go off (07 R127). -/
def execCueDecrement (s : State) : Host.Outcome State Fault Refusal :=
  s.occurs (decide (s.timerState = .counting) && decide (2 ≤ s.cue.remaining)) fun s =>
    s.putCue { s.cue with remaining := s.cue.remaining - 1, part := 0 }

/-- A cue is placed (07 R128): cues-this-stretch and the record's cues spoken count it. -/
def State.placeCue (s : State) : State :=
  if (s.place .cue).pending.isEmpty then
    let s := s.arrive (compose .cue .cuePrompt [s.phrase .cue, .word])
    let s := s.putCue { s.cue with stretch := s.cue.stretch + 1 }
    s.mapResult s.cycle.index fun r => { r with cues := saturatingAdd 7 r.cues 1 }
  else s

/-- An expiry (07 R128, R129). -/
def State.expire (s : State) : State :=
  if s.cue.stretch < s.cue.limit then
    let s := s.placeCue
    s.cueLoad s.cue.stretch
  else (s.raise (.childIdle s.cycle.index)).cueStop

/-- CUE_EXPIRY (07 R128): the decrement that brings the remaining count of a COUNTING timer to 0, with all it brings about
(log 7). -/
def execCueExpiry (s : State) : Host.Outcome State Fault Refusal :=
  s.occurs (decide (s.timerState = .counting) && decide (s.cue.remaining = 1)) State.expire

/-- SET_CUE (07 R131). -/
def execSetCue (tag : Byte) (payload : List Byte) (s : State) : Host.Outcome State Fault Refusal :=
  s.command 0x16 tag payload fun s =>
    s.lessonSetting (decide (payload.length = 5)) true <|
      let reload := clamp 1 600 (field16 payload 0)
      let boundary := min 600 (field16 payload 2)
      let limit := min 7 (field payload 4)
      (s.putCue { s.cue with reload := reload, boundary := boundary, limit := limit }).accept
        (le16 reload ++ le16 boundary ++ [byteOf limit])

end Sys2Proof.Machine
end

