-- ==== Sys2Proof/Machine/Dispatch.lean ====
section
/-! DEFINITION. The one dispatch: each row of the table to its meaning. -/

namespace Sys2Proof.Machine

def exec (i : Instr) (s : State) : Host.Outcome State Fault Refusal :=
  match i with
  | .pinReset => Sys2Proof.Machine.execPinReset s
  | .resetnRelease => Sys2Proof.Machine.execResetnRelease s
  | .scan raw => Sys2Proof.Machine.execScan raw s
  | .pressIntervalComplete position => Sys2Proof.Machine.execPressIntervalComplete position s
  | .releaseIntervalComplete position => Sys2Proof.Machine.execReleaseIntervalComplete position s
  | .wakingPress => Sys2Proof.Machine.execWakingPress s
  | .takePass => Sys2Proof.Machine.execTakePass s
  | .discardHead => Sys2Proof.Machine.execDiscardHead s
  | .takeLetter => Sys2Proof.Machine.execTakeLetter s
  | .takeRubout => Sys2Proof.Machine.execTakeRubout s
  | .takeGo => Sys2Proof.Machine.execTakeGo s
  | .takeSpace => Sys2Proof.Machine.execTakeSpace s
  | .takeHear => Sys2Proof.Machine.execTakeHear s
  | .takeHint => Sys2Proof.Machine.execTakeHint s
  | .judgingComplete => Sys2Proof.Machine.execJudgingComplete s
  | .utteranceStart => Sys2Proof.Machine.execUtteranceStart s
  | .stageEnd => Sys2Proof.Machine.execStageEnd s
  | .fadeEnd => Sys2Proof.Machine.execFadeEnd s
  | .cueDecrement => Sys2Proof.Machine.execCueDecrement s
  | .cueExpiry => Sys2Proof.Machine.execCueExpiry s
  | .ampHoldEnd => Sys2Proof.Machine.execAmpHoldEnd s
  | .frameReceived byte => Sys2Proof.Machine.execFrameReceived byte s
  | .interByteTimeout => Sys2Proof.Machine.execInterByteTimeout s
  | .transmitBegin => Sys2Proof.Machine.execTransmitBegin s
  | .transmitComplete => Sys2Proof.Machine.execTransmitComplete s
  | .unknownCommand kind tag payload => Sys2Proof.Machine.execUnknownCommand kind tag payload s
  | .status tag payload => Sys2Proof.Machine.execStatus tag payload s
  | .begin tag payload => Sys2Proof.Machine.execBegin tag payload s
  | .bankCheckComplete => Sys2Proof.Machine.execBankCheckComplete s
  | .reset tag payload => Sys2Proof.Machine.execReset tag payload s
  | .doze tag payload => Sys2Proof.Machine.execDoze tag payload s
  | .wake tag payload => Sys2Proof.Machine.execWake tag payload s
  | .setKeys tag payload => Sys2Proof.Machine.execSetKeys tag payload s
  | .setIntake tag payload => Sys2Proof.Machine.execSetIntake tag payload s
  | .setLetters tag payload => Sys2Proof.Machine.execSetLetters tag payload s
  | .setPhrases tag payload => Sys2Proof.Machine.execSetPhrases tag payload s
  | .setPairs tag payload => Sys2Proof.Machine.execSetPairs tag payload s
  | .setSources tag payload => Sys2Proof.Machine.execSetSources tag payload s
  | .setCue tag payload => Sys2Proof.Machine.execSetCue tag payload s
  | .setJudge tag payload => Sys2Proof.Machine.execSetJudge tag payload s
  | .setVoice tag payload => Sys2Proof.Machine.execSetVoice tag payload s
  | .loadWords tag payload => Sys2Proof.Machine.execLoadWords tag payload s
  | .clearWords tag payload => Sys2Proof.Machine.execClearWords tag payload s
  | .start tag payload => Sys2Proof.Machine.execStart tag payload s
  | .pause tag payload => Sys2Proof.Machine.execPause tag payload s
  | .resume tag payload => Sys2Proof.Machine.execResume tag payload s
  | .stop tag payload => Sys2Proof.Machine.execStop tag payload s
  | .goto tag payload => Sys2Proof.Machine.execGoto tag payload s
  | .releaseLetter tag payload => Sys2Proof.Machine.execReleaseLetter tag payload s
  | .releasePass tag payload => Sys2Proof.Machine.execReleasePass tag payload s
  | .releaseWord tag payload => Sys2Proof.Machine.execReleaseWord tag payload s
  | .getAttempt tag payload => Sys2Proof.Machine.execGetAttempt tag payload s
  | .getResults tag payload => Sys2Proof.Machine.execGetResults tag payload s
  | .setWindow tag payload => Sys2Proof.Machine.execSetWindow tag payload s
  | .getTally tag payload => Sys2Proof.Machine.execGetTally tag payload s
  | .say tag payload => Sys2Proof.Machine.execSay tag payload s
  | .sayNow tag payload => Sys2Proof.Machine.execSayNow tag payload s
  | .cut tag payload => Sys2Proof.Machine.execCut tag payload s
  | .flush tag payload => Sys2Proof.Machine.execFlush tag payload s
  | .receivedByte byte => Sys2Proof.Machine.execReceivedByte byte s
  | .samplePeriod => Sys2Proof.Machine.execSamplePeriod s

end Sys2Proof.Machine
end

