-- ==== Sys2Proof/Machine/Step.lean ====
section
/-! DEFINITION. One step: the command at the front of the queue, or one unit of time on an empty queue. -/

namespace Sys2Proof.Machine

/-- One step of the block: the command at the front of the queue is carried out on the state with the queue's rest. On an
empty queue the block idles while 125 us pass (log 4). -/
def step (s : State) : Host.Outcome State Fault Refusal :=
  match s.pending with
  | [] => .next s.passTime
  | c :: rest => exec c { s with pending := rest }

/-- The command that a table word spells put at the front of the queue; the table spells none. -/
def State.withFetchWord (s : State) (nbits w : Nat) : State :=
  match decodeTableWord nbits w with
  | none => s
  | some c => { s with pending := c :: s.pending }

end Sys2Proof.Machine
end

