-- ==== Sys2Proof/Safety.lean ====
section
/-! DEFINITION. The terms the statements use: which blocks a step leaves alone, and the laws of the part that every step keeps.
Each law is a decidable proposition about one state. -/

namespace Sys2Proof.Machine

/-! ### Frames -/

/-- The twelve blocks of 00. -/
inductive Block where
  | op | scanner | ring | intake | cycle | judge | sources | arbiter | cue | voice | bank | link
  deriving DecidableEq, Repr

/-- One block is the same in two states. -/
def Block.same (b : Block) (s t : State) : Prop :=
  match b with
  | .op => t.op = s.op
  | .scanner => t.scanner = s.scanner
  | .ring => t.ring = s.ring
  | .intake => t.intake = s.intake
  | .cycle => t.cycle = s.cycle
  | .judge => t.judge = s.judge
  | .sources => t.sources = s.sources
  | .arbiter => t.arbiter = s.arbiter
  | .cue => t.cue = s.cue
  | .voice => t.voice = s.voice
  | .bank => t.bank = s.bank
  | .link => t.link = s.link

/-- `t` differs from `s` at most in the blocks listed: the queue, the RESETn pin and every other block are unchanged. -/
def SameBut (bs : List Block) (s t : State) : Prop :=
  t.pending = s.pending ∧ t.resetLow = s.resetLow ∧ ∀ b : Block, b ∉ bs → b.same s t

/-- The content of the speech bank is unchanged (08 R133: read-only to the part). -/
abbrev SameFlash (s t : State) : Prop := t.bank.flash = s.bank.flash

/-! ### The outbox (09 R155, R159, R160) -/

/-- The twelve notice kinds in a list. -/
def noticeKinds : List NoticeKind :=
  [.resetDone, .woke, .keyPass, .ringOverrun, .attemptFull, .wordJudged, .lessonEnd, .childIdle, .queueLow, .said,
    .fault, .linkError]

/-- The frames of one notice kind in the outbox, waiting or in transmission. -/
def Link.framesOf (l : Link) (k : NoticeKind) : Nat :=
  l.outbox.countP (OutFrame.hasKind k) + (if (l.transmitting.map (OutFrame.hasKind k)).getD false then 1 else 0)

/-- A held notice is held behind a transmission of its own kind (09 R160). -/
def Link.heldBehindOwnKind (l : Link) : Bool :=
  match l.held with
  | none => true
  | some h => (l.transmitting.map (OutFrame.hasKind h.kind)).getD false

/-- The outbox law: at most one frame of a notice kind, at most four reply places used, the inbox within its two frames,
a held notice only behind its own kind's transmission, and a BEGIN carried out in SETUP alone (10 R165). -/
abbrev OutboxLaw (s : State) : Prop :=
  (∀ k ∈ noticeKinds, s.link.framesOf k ≤ 1) ∧ s.link.replyPlacesUsed ≤ Config.replyPlaces ∧
    s.link.inbox.length ≤ Config.inboxCapacity ∧ s.link.heldBehindOwnKind = true ∧
    (s.link.begun.isSome = true → s.op = .setup)

/-! ### The word cycle and the Cue Timer (03 R52, 04 R63, 07 R124 to R127) -/

/-- The word cycle law: the phase is NONE exactly when no word is current, the Judge works exactly in phase JUDGING, a
current word is in the table, a lesson runs or is paused in READY alone and is EMPTY in SETUP, and the Cue Timer runs in
phase ANSWERING alone and stands at 0 when STOPPED. -/
abbrev WordCycleLaw (s : State) : Prop :=
  (s.cycle.phase = .none ↔ s.cycle.lesson.current = false) ∧
    (s.judge.working.isSome = true ↔ s.cycle.phase = .judging) ∧
    (s.cycle.lesson.current = true → s.cycle.index < s.cycle.words.length) ∧
    (s.op ≠ .ready → s.cycle.lesson.current = false) ∧
    (s.op = .setup → s.cycle.lesson = .empty) ∧
    (s.cue.running = true → s.cycle.phase = .answering) ∧
    (s.cue.running = false → s.cue.remaining = 0)

/-! ### Capacities -/

/-- The bounds of the part's stores (01 R11, R12; 02 R18; 03 R40, R41; 05 R86), the VERDICT list apart. -/
abbrev CapacityLaw (s : State) : Prop :=
  s.ring.events.length ≤ Config.ringCapacity ∧ s.ring.lost ≤ Config.lostTop ∧
    s.intake.attempt.length ≤ Config.attemptCapacity ∧
    s.cycle.words.length ≤ Config.tableCapacity ∧ s.cycle.results.length = 32 ∧ s.cycle.index < 32 ∧
    (s.place .now).pending.length ≤ 1 ∧ (s.place .echo).pending.length ≤ Config.shortListCapacity ∧
    (s.place .word).pending.length ≤ 1 ∧ (s.place .cue).pending.length ≤ 1 ∧
    (s.place .queue).pending.length ≤ Config.queueCapacity

/-! ### Places (05 R85, R86; 06 R114) -/

/-- The places of one source hold utterances of that source, and its backup slot is empty while one of its utterances is
PLAYING or FADING. -/
def State.placeLawful (s : State) (src : Source) : Bool :=
  ((s.place src).pending.all fun u => decide (u.source = src)) &&
    ((s.place src).backup.all fun u => decide (u.source = src)) &&
    (!s.sounding src || (s.place src).backup.isNone)

/-- The place law, for every source. -/
abbrev PlaceLaw (s : State) : Prop := ∀ src ∈ tieOrder, s.placeLawful src = true

/-! ### The speaker (08 R143, R145; 10 R164) -/

/-- The speaker law: the output code is a 10-bit code, and 512 while no utterance is PLAYING or FADING, AMP is ACTIVE exactly
while one is, and outside READY nothing runs and AMP is INACTIVE. -/
abbrev SpeakerLaw (s : State) : Prop :=
  s.voice.output ≤ 1023 ∧ (s.arbiter.running = none → s.voice.output = 512) ∧
    (s.arbiter.running.isSome = true ↔ s.voice.amp = .active) ∧
    (s.op ≠ .ready → s.arbiter.running = none ∧ s.voice.amp = .inactive)

/-! ### The key matrix (01 R2, R7, R16; 10 R168, R169) -/

/-- Positions that rise strictly. -/
def rising : List Nat → Bool
  | [] => true
  | [_] => true
  | a :: b :: rest => decide (a < b) && rising (b :: rest)

/-- The scanner law: the held set and the intervals are in ascending position order within the 64 positions, the held set is
empty in SETUP, where the scanner is off (01 R16), and in DOZE, where its wake watch runs but a held key wakes the part in the
same step (10 R168, R169; log 20); no interval is in progress in SETUP, and the key map has its 64 records. -/
abbrev ScannerLaw (s : State) : Prop :=
  rising (s.scanner.held.map HeldEntry.position) = true ∧
    (∀ h ∈ s.scanner.held, h.position < Config.positions) ∧
    rising (s.scanner.intervals.map Interval.position) = true ∧
    (∀ i ∈ s.scanner.intervals, i.position < Config.positions) ∧
    (s.op ≠ .ready → s.scanner.held = []) ∧ (s.op = .setup → s.scanner.intervals = []) ∧
    s.scanner.keyMap.length = Config.positions

/-! ### Settings (01 R3; 03 R55; 04 R78, R79; 06 R118; 07 R131; 08 R137) -/

/-- The settings stay in the ranges the manual gives them, and a running Cue Timer has a count left (07 R128). -/
abbrev SettingsLaw (s : State) : Prop :=
  (1 ≤ s.scanner.debounce ∧ s.scanner.debounce ≤ 8) ∧ (1 ≤ s.cycle.triesPerWord ∧ s.cycle.triesPerWord ≤ 7) ∧
    (50 ≤ s.judge.closeThreshold ∧ s.judge.closeThreshold ≤ 99) ∧
    (s.judge.windowStart ≤ 31 ∧ 1 ≤ s.judge.windowLength ∧ s.judge.windowLength ≤ 32) ∧
    (s.judge.letterErrors ≤ Config.tallyTop ∧ s.judge.attemptsJudged ≤ Config.tallyTop ∧
      s.judge.exactCount ≤ Config.tallyTop) ∧
    (∀ src ∈ tieOrder, s.level src ≤ 3) ∧ s.arbiter.lowMark ≤ 15 ∧
    (1 ≤ s.cue.reload ∧ s.cue.reload ≤ 600) ∧ s.cue.boundary ≤ 600 ∧ s.cue.limit ≤ 7 ∧ s.cue.remaining ≤ 600 ∧
    (s.cue.running = true → 1 ≤ s.cue.remaining) ∧
    s.judge.pairs.length ≤ Config.pairCapacity ∧ s.voice.letterMap.length = 28 ∧ s.sources.phrases.length = 8

/-! ### The VERDICT source (03 R54, R56; 05 R86, R96) -/

/-- A feedback or spell-back. -/
def Utterance.isFeedback (u : Utterance) : Bool := decide (u.kind = .feedback ∨ u.kind = .spellback)

/-- The feedbacks that wait in VERDICT. -/
def State.waitingFeedbacks (s : State) : Nat :=
  (s.place .verdict).pending.countP Utterance.isFeedback + (s.place .verdict).backup.toList.countP Utterance.isFeedback

/-- The running utterance is a feedback whose end may still be DONE or CUT, or which may be restored. -/
def State.runningFeedback (s : State) : Nat :=
  match s.arbiter.running with
  | none => 0
  | some r =>
    if r.utterance.isFeedback then
      match r.state with
      | .playing => 1
      | .fading .restore _ => 1
      | .fading .discardCut _ => 1
      | .fading .discardStopped _ => 0
    else 0

/-- The running utterance is a feedback that will not be heard again. -/
def State.feedbackLeaving (s : State) : Bool :=
  match s.arbiter.running with
  | none => true
  | some r =>
    !r.utterance.isFeedback ||
      (match r.state with
        | .playing => false
        | .fading .restore _ => false
        | .fading .discardCut _ => true
        | .fading .discardStopped _ => true)

/-- No place of this source holds a feedback. -/
def Place.noFeedback (p : Place) : Bool :=
  (p.pending.all fun u => !u.isFeedback) && (p.backup.all fun u => !u.isFeedback)

/-- An utterance of the source VERDICT has one of the four kinds that are composed for it (05 R86, R96). -/
def Utterance.ofVerdictKind (u : Utterance) : Bool :=
  decide (u.kind = .oops ∨ u.kind = .hint ∨ u.kind = .feedback ∨ u.kind = .spellback)

/-- What waits in VERDICT, and a running utterance of VERDICT, is an OOPS, HINT, FEEDBACK or SPELLBACK (05 R86, R96). -/
def State.verdictKinds (s : State) : Bool :=
  ((s.place .verdict).pending.all Utterance.ofVerdictKind) && ((s.place .verdict).backup.all Utterance.ofVerdictKind) &&
    (s.arbiter.running.all fun r => !decide (r.utterance.source = .verdict) || r.utterance.ofVerdictKind)

/-- The verdict law: VERDICT holds OOPS, HINT, FEEDBACK and SPELLBACK alone, its list never exceeds 4 and is empty while an
attempt is judged, only VERDICT holds feedbacks, at most one feedback exists and only in phase FEEDBACK, but for one that
fades out unheard. -/
abbrev VerdictLaw (s : State) : Prop :=
  s.verdictKinds = true ∧ (s.place .verdict).pending.length ≤ Config.shortListCapacity ∧
    (s.cycle.phase = .judging → (s.place .verdict).pending = []) ∧
    (s.cycle.phase = .feedback → (s.place .verdict).pending.length ≤ 1 ∧
      s.waitingFeedbacks + s.runningFeedback ≤ 1) ∧
    (s.cycle.phase ≠ .feedback → s.waitingFeedbacks = 0) ∧
    (s.cycle.phase = .answering ∨ s.cycle.phase = .judging ∨ s.cycle.phase = .held → s.runningFeedback = 0) ∧
    (s.cycle.phase = .none ∨ s.cycle.phase = .prompting → s.feedbackLeaving = true) ∧
    (∀ src ∈ tieOrder, src ≠ .verdict → (s.place src).noFeedback = true) ∧
    (s.arbiter.running.all fun r => !r.utterance.isFeedback || decide (r.utterance.source = .verdict)) = true

/-! ### Frames that fit the link (09 R150, R151) -/

/-- The body of a frame fits the LEN byte. -/
def OutFrame.fits (f : OutFrame) : Bool := decide (2 ≤ f.body.length ∧ f.body.length ≤ 250)

/-- A KEY_PASS or SAID notice lists at most eight entries, a WORD_JUDGED notice at most twenty marks. -/
def Notice.fits : Notice → Bool
  | .keyPass _ es => decide (es.length ≤ Config.noticeEntries)
  | .said _ es => decide (es.length ≤ Config.noticeEntries)
  | .wordJudged r _ => decide (r.marks.length ≤ 20)
  | .resetDone _ => true
  | .woke _ => true
  | .ringOverrun _ => true
  | .attemptFull _ => true
  | .lessonEnd _ _ _ _ => true
  | .childIdle _ => true
  | .queueLow _ => true
  | .fault _ _ => true
  | .linkError _ _ => true

/-- A frame's lists are within their bounds, and so its body fits. -/
def OutFrame.lawful : OutFrame → Bool
  | .reply r => (OutFrame.reply r).fits
  | .notice n => n.fits

/-- The frame law: every frame waiting, in transmission or held has lists within their bounds, and the spellings of the
word table and of the Judge's work have at most 20 symbols (03 R39). -/
abbrev FrameLaw (s : State) : Prop :=
  (∀ f ∈ s.link.outbox, f.lawful = true) ∧ (s.link.transmitting.all OutFrame.lawful = true) ∧
    (s.link.held.all Notice.fits = true) ∧ (∀ w ∈ s.cycle.words, w.spelling.length ≤ 20) ∧
    (s.judge.working.all fun r => decide (r.target.length ≤ 20)) = true

/-! ### What the statements say of a command -/

/-- The Link Port takes the frame at the head of the inbox (09 R155); `u` is the state without it. -/
def Takes (s : State) (f : HostFrame) (u : State) : Prop :=
  s.resetLow = false ∧ s.link.begun = none ∧ s.link.replyPlacesUsed < 4 ∧
    ∃ rest, s.link.inbox = f :: rest ∧ u = { s with link := { s.link with inbox := rest } }

/-- `u` with one reply entering the outbox last (09 R155, R157); `kind` is the reply's own kind code. -/
def State.replied (u : State) (kind tag : Byte) (r : ResultCode) (payload : List Byte) : State :=
  { u with link := { u.link with outbox := u.link.outbox ++ [.reply ⟨kind, tag, r, payload⟩] } }

/-- The intake is TAKING and `e` is the head of the ring, `rest` behind it (02 R19, R22). -/
def State.actingHead (s : State) (e : KeyEvent) (rest : List KeyEvent) : Prop :=
  s.resetLow = false ∧ s.op = .ready ∧ s.cycle.lesson = .running ∧ s.cycle.phase = .answering ∧
    s.intake.letterHold = false ∧ s.intake.passHold = false ∧ s.ring.events = e :: rest

/-- What the Key Ring makes of an offered event (01 R11, R12, R14). -/
def RingReceives (s t : State) (e : KeyEvent) : Prop :=
  if s.intake.settings.listenFirst = true ∧ e.role ≠ .pass ∧ (s.sounding .word = true ∨ s.sounding .verdict = true) then
    t.ring = s.ring ∧ t.link = s.link
  else if s.ring.events.length < 16 then
    t.ring = { s.ring with events := s.ring.events ++ [e] } ∧ t.link = s.link
  else
    t.ring = { s.ring with lost := min 255 (s.ring.lost + 1) } ∧
      t.link = s.link.raise (.ringOverrun (min 255 (s.ring.lost + 1)))

/-- The cut-in test (06 R111) is made once over what `t` has besides its arbiter, with the arbiter of `s`. -/
def CutInTested (s t : State) : Prop := t.arbiter = ({ t with arbiter := s.arbiter } : State).cutInTest.arbiter

/-- An utterance of the part (05 R96): tag 0, notify no, resume index 0. -/
def partUtterance (src : Source) (k : UttKind) (items : List Item) : Utterance := ⟨src, k, 0, false, items, 0⟩

/-- The CLIP item of a phrase slot (05 R94). -/
def State.phraseItem (s : State) (slot : Nat) : Item := .clip (s.sources.phrases.getD slot 0)

/-- The state of a lesson utterance's fade after the lesson sweep (03 R49, 06 R112). -/
def RunState.swept : RunState → RunState
  | .playing => .fading .discardStopped 0
  | .fading .restore n => .fading .discardStopped n
  | .fading .discardCut n => .fading .discardCut n
  | .fading .discardStopped n => .fading .discardStopped n

/-- The arbiter after the lesson sweep (03 R49): a running lesson utterance fades out, a host utterance is left as it is. -/
def Arbiter.lessonSwept (a : Arbiter) : Arbiter :=
  { a with
    running := a.running.map fun r =>
      if r.utterance.source.isLesson = true then { r with state := r.state.swept } else r }

/-- The lesson sweep reaches the arbiter of `s`, and the cut-in test (06 R111) is made over what `t` has besides its arbiter. -/
def SweptRunning (s t : State) : Prop :=
  t.arbiter = ({ t with arbiter := s.arbiter.lessonSwept } : State).cutInTest.arbiter

/-- The lesson sources hold nothing and the host sources are as they were (03 R49). -/
def SweptPlaces (s t : State) : Prop :=
  t.sources.phrases = s.sources.phrases ∧ t.place .now = s.place .now ∧ t.place .queue = s.place .queue ∧
    ∀ src, src.isLesson = true → t.place src = ⟨[], none⟩

/-- A timer loaded with its reload (07 R125). -/
def CueTimer.loaded (c : CueTimer) (stretch : Nat) : CueTimer :=
  { c with running := true, remaining := c.reload, part := 0, stretch := stretch }

/-- A stopped timer (07 R126). -/
def CueTimer.stopped (c : CueTimer) : CueTimer := { c with running := false, remaining := 0, part := 0 }

/-- The word at index `i` has begun (03 R52) from the state `s`. The cut-in test (06 R111) is made when the timer stops, and
again when the prompt arrives after the sweep (log 19). -/
def WordBegan (s t : State) (i : Nat) : Prop :=
  t.cycle = { s.cycle with
      index := i, phase := .prompting, results := s.cycle.results.set i ⟨.opened, 0, 0, 0, 0, 0, 0⟩ } ∧
    t.cue = { s.cue with running := false, remaining := 0, part := 0, stretch := 0 } ∧
    t.intake = { s.intake with attempt := [], attemptFull := false, letterHold := false } ∧
    t.sources.phrases = s.sources.phrases ∧ t.place .now = s.place .now ∧ t.place .queue = s.place .queue ∧
    t.place .word = ⟨[partUtterance .word .wordPrompt [s.phraseItem 0, .word, .sentence, .word]], none⟩ ∧
    t.place .echo = ⟨[], none⟩ ∧ t.place .verdict = ⟨[], none⟩ ∧ t.place .cue = ⟨[], none⟩ ∧
    SweptRunning { s with cue := s.cue.stopped }.cutInTest t ∧ SameBut [.cycle, .cue, .intake, .sources, .arbiter] s t

/-- The lesson has ended past its last word (03 R58, R59) from the state `s`. -/
def LessonEnded (s t : State) : Prop :=
  t.cycle = { s.cycle with phase := .none, lesson := .finished } ∧
    t.cue = { s.cue with running := false, remaining := 0, part := 0 } ∧
    SweptPlaces s t ∧ SweptRunning s t ∧
    t.link = s.link.raise (.lessonEnd (s.cycle.results.countP fun r => decide (r.state = .exact))
      (s.cycle.results.countP fun r => decide (r.state = .missed))
      (s.cycle.results.countP fun r => decide (r.state = .skipped)) ((s.cycle.results.map ResultRecord.tries).sum)) ∧
    SameBut [.cycle, .cue, .sources, .arbiter, .link] s t

/-- The running place empties: no utterance runs, AMP begins its hold (08 R145), and the output code is 512 (log 23). -/
def State.vacated (s : State) : State :=
  { s with
    arbiter := { s.arbiter with running := none }
    voice := { s.voice with
      output := 512
      amp := match s.voice.amp with
        | .active => .holding 0
        | .inactive => .inactive
        | .holding n => .holding n } }

end Sys2Proof.Machine
end

