-- ==== Sys2Proof/Certificates/Slice0/Obligations.lean ====
section
/-! DEFINITION. The statements for the provers, each a proposition about the model. A docstring names the rule of spec/ that a
statement formalises, or says that it is the model's own choice and names the log entry. Statements about a host command take
the frame at the head of the inbox (`Takes`); one statement carries them to the frame that a row brings itself. -/

open Sys2Proof Sys2Proof.Machine

/-! ### The queue -/

/-- A step carries out the command at the front of the queue on the state with the queue's rest. -/
def Obligations.StepRunsFrontCommand : Prop :=
  ∀ (c : Instr) (rest : List Instr) (s : State), s.pending = c :: rest → step s = exec c { s with pending := rest }

/-- On an empty queue 125 us pass: the model's choice (log 4). The part-unit of a COUNTING timer, a running AMP hold and the
inter-byte timer gather them, and nothing else changes. -/
def Obligations.EmptyQueueLetsTimePass : Prop :=
  ∀ s : State, s.pending = [] →
    (s.resetLow = true → step s = .next s) ∧
    (s.resetLow = false →
      step s = .next { s with
        cue := if s.timerState = .counting then { s.cue with part := min 800 (s.cue.part + 1) } else s.cue
        voice := { s.voice with
          amp := match s.voice.amp with
            | .holding e => .holding (min 1600 (e + 1))
            | .inactive => .inactive
            | .active => .active }
        link := { s.link with
          assembler :=
            if s.link.assembler.state = .hunt then s.link.assembler
            else { s.link.assembler with timer := min 81 (s.link.assembler.timer + 1) } } })

/-- The frame of each command row leads back to the row (11 R175, R178): a well-formed row is the row that takes its own
frame (a malformed RELEASE goes to one of three rows, log 11), and every frame that fits the link is taken by a well-formed row
that carries its kind, tag and payload. The layouts of what the part sends (11 R172, R174, R176 to R179): a reply opens with its
kind code, its tag and its result code; a notice with its kind code and the fields of its kind, a list with its count before
it; and every code is the tables'. The frame in transmission (09 R150, R151) is SYNC, LEN, the body and the CHECK that makes
LEN, body and CHECK sum to 0; with none in transmission TXD carries nothing (log 21). -/
def Obligations.FramesAndRowsAgree : Prop :=
  (∀ (c : Instr) (k t : Byte) (p : List Byte), c.hostFrame = some (k, t, p) → c.wf = true →
    (k = 0x27 → (releaseTarget p).isSome = true) → Instr.ofFrame k t p = c) ∧
  (∀ (k t : Byte) (p : List Byte), p.length ≤ 248 →
    (Instr.ofFrame k t p).hostFrame = some (k, t, p) ∧ (Instr.ofFrame k t p).wf = true) ∧
  (∀ r : Reply, (OutFrame.reply r).body = r.kind :: r.tag :: r.result.code :: r.payload) ∧
  (∀ c, (OutFrame.notice (.resetDone c)).body = [0x40, c.code]) ∧
  (∀ position, (OutFrame.notice (.woke position)).body = [0x41, byteOf position]) ∧
  (∀ more es, (OutFrame.notice (.keyPass more es)).body = 0x42 :: flagByte more :: byteOf es.length ::
    es.flatMap fun e => [byteOf e.position, byteOf e.symbol, e.edge.code]) ∧
  (∀ lost, (OutFrame.notice (.ringOverrun lost)).body = [0x43, byteOf lost]) ∧
  (∀ word, (OutFrame.notice (.attemptFull word)).body = [0x44, byteOf word]) ∧
  (∀ r count, (OutFrame.notice (.wordJudged r count)).body =
    [0x45, byteOf r.wordIndex, byteOf r.tryNumber, byteOf r.score, r.verdict.code, byteOf r.distance,
      byteOf r.letterErrors, byteOf r.extra, byteOf count, byteOf r.marks.length] ++ r.marks.map Mark.code) ∧
  (∀ exact missed skipped tries, (OutFrame.notice (.lessonEnd exact missed skipped tries)).body =
    [0x46, byteOf exact, byteOf missed, byteOf skipped, byteOf tries]) ∧
  (∀ word, (OutFrame.notice (.childIdle word)).body = [0x47, byteOf word]) ∧
  (∀ level, (OutFrame.notice (.queueLow level)).body = [0x48, byteOf level]) ∧
  (∀ more es, (OutFrame.notice (.said more es)).body = 0x49 :: flagByte more :: byteOf es.length ::
    es.flatMap fun e => [e.tag, e.ended.code]) ∧
  (∀ clip count, (OutFrame.notice (.fault clip count)).body = [0x4A, byteOf clip, byteOf (clip / 256), byteOf count]) ∧
  (∀ cause count, (OutFrame.notice (.linkError cause count)).body = [0x4B, cause.code, byteOf count]) ∧
  ([ResultCode.ok, .unknown, .length, .range, .state, .full, .occupied, .notHeld, .overflow, .bankBad].map
      ResultCode.code = [0, 1, 2, 3, 4, 5, 6, 7, 8, 9] ∧
    [Edge.press, .release].map Edge.code = [0, 1] ∧ [MarkRule.strict, .skip].map MarkRule.code = [0, 1] ∧
    [Source.now, .echo, .verdict, .word, .cue, .queue].map Source.code = [0, 1, 2, 3, 4, 5] ∧
    [UttKind.host, .echo, .oops, .hint, .feedback, .spellback, .wordPrompt, .hearPrompt, .cuePrompt].map UttKind.code =
      [0, 1, 2, 3, 4, 5, 6, 7, 8] ∧
    RunState.playing.code = 0 ∧ (∀ k n, (RunState.fading k n).code = 1) ∧
    [EndKind.done, .cut, .flushed].map EndKind.code = [0, 1, 2] ∧
    [Verdict.exact, .close, .wrong].map Verdict.code = [0, 1, 2] ∧
    [Mark.right, .swapped, .near, .wrong, .missing, .passed].map Mark.code = [0, 1, 2, 3, 4, 5] ∧
    [ResultState.unseen, .opened, .exact, .missed, .skipped].map ResultState.code = [0, 1, 2, 3, 4] ∧
    [OpState.setup, .ready, .doze].map OpState.code = [0, 1, 2] ∧
    [LessonState.empty, .loaded, .running, .paused, .finished].map LessonState.code = [0, 1, 2, 3, 4] ∧
    [Phase.none, .prompting, .answering, .judging, .feedback, .held].map Phase.code = [0, 1, 2, 3, 4, 5] ∧
    [IntakeState.idle, .taking, .heldLetter, .heldPass].map IntakeState.code = [0, 1, 2, 3] ∧
    [TimerState.stopped, .counting, .frozen].map TimerState.code = [0, 1, 2] ∧
    [LinkCause.len, .check, .timeout].map LinkCause.code = [1, 2, 3] ∧
    [ResetCause.pin, .command].map ResetCause.code = [0, 1]) ∧
  (∀ s : State, s.link.transmitting = none → s.txdFrame = []) ∧
  (∀ (s : State) (f : OutFrame), s.link.transmitting = some f →
    ∃ check : Byte, s.txdFrame = 0xC3 :: byteOf f.body.length :: (f.body ++ [check]) ∧
      byteSum (byteOf f.body.length :: (f.body ++ [check])) = 0)

/-- With an empty inbox a command row brings its own frame: the model's choice (log 2). -/
def Obligations.EmptyInboxRowBringsItsFrame : Prop :=
  ∀ (c : Instr) (k t : Byte) (p : List Byte) (s : State), c.hostFrame = some (k, t, p) → c.wf = true →
    s.mayTake = true → s.link.inbox = [] →
    exec c s = exec c { s with link := { s.link with inbox := [⟨k, t, p⟩] } }

/-! ### Resets (10 R166, R167) -/

/-- What reset leaves, where the manual gives the value. The moment that the state after reset stands for is the model's (log 1):
RESETn has just returned high, and RESET_DONE waits in the outbox with ATTN low. The laws hold there. -/
def Obligations.ResetValuesAndLaws : Prop :=
  (State.reset.resetLow = false ∧ State.reset.op = .setup ∧
    State.reset.scanner = ⟨List.replicate 64 ⟨.pass, 0⟩, 4, .press, [], []⟩ ∧ State.reset.ring = ⟨[], 0⟩ ∧
    State.reset.intake = ⟨⟨false, false, false, false, false, .free⟩, [], false, false, false⟩ ∧
    State.reset.cycle = ⟨[], .empty, 0, .none, List.replicate 32 ⟨.unseen, 0, 0, 0, 0, 0, 0⟩, 3⟩ ∧
    State.reset.judge = ⟨none, [], 75, .strict, 0, 32, 0, 0, 0, none⟩ ∧
    (∀ src ∈ tieOrder, State.reset.place src = ⟨[], none⟩) ∧ State.reset.sources.phrases = List.replicate 8 0 ∧
    State.reset.arbiter = ⟨none, ⟨⟨0, true⟩, ⟨1, false⟩, ⟨1, false⟩, ⟨2, false⟩, ⟨2, false⟩, ⟨3, false⟩⟩, .queue, 0⟩ ∧
    State.reset.timerState = .stopped ∧ State.reset.cue.remaining = 0 ∧ State.reset.cue.stretch = 0 ∧
    State.reset.cue.reload = 80 ∧ State.reset.cue.boundary = 20 ∧ State.reset.cue.limit = 2 ∧ State.reset.lockOn = false ∧
    State.reset.voice = ⟨List.replicate 28 ⟨.name, 0, 0, 0, 0⟩, .names, 32, 6, 30, 15, 512, .inactive⟩ ∧
    State.reset.bank.valid = false ∧ State.reset.bank.clipCount = 0 ∧ State.reset.bank.size = 0 ∧
    State.reset.link.assembler.state = .hunt ∧ State.reset.link.inbox = [] ∧
    State.reset.link.outbox = [.notice (.resetDone .pin)] ∧ State.reset.link.transmitting = none ∧
    State.reset.link.held = none ∧ State.reset.attnLow = true) ∧
  (OutboxLaw State.reset ∧ FrameLaw State.reset ∧ WordCycleLaw State.reset ∧ CapacityLaw State.reset ∧
      SettingsLaw State.reset ∧ PlaceLaw State.reset ∧ SpeakerLaw State.reset ∧ ScannerLaw State.reset ∧
      VerdictLaw State.reset)

/-- PIN_RESET, in every state, and RESETN_RELEASE (10 R167, 09 R163): every block takes its pin-reset value at once
(log 13), the link is emptied, the lines are quiet and the speech bank's content is not touched; when RESETn returns
high the part stands at its pin-reset values with RESET_DONE, cause PIN, raised. With RESETn high already the release
changes nothing (log 3). While RESETn is low the part does nothing, whatever happens to it but RESETn itself (10
R167). -/
def Obligations.ResetPinAndItsRelease : Prop :=
  (∀ s : State, ∃ t, exec .pinReset s = .next t ∧ t.resetLow = true ∧ t.op = .setup ∧
      t.scanner = State.reset.scanner ∧ t.ring = State.reset.ring ∧ t.intake = State.reset.intake ∧
      t.cycle = State.reset.cycle ∧ t.judge = State.reset.judge ∧ t.sources = State.reset.sources ∧
      t.arbiter = State.reset.arbiter ∧ t.cue = State.reset.cue ∧ t.voice = State.reset.voice ∧
      t.bank = { State.reset.bank with flash := s.bank.flash } ∧
      t.link = ⟨Assembler.idle, [], [], none, none, none⟩ ∧ t.pending = s.pending ∧
      t.attnLow = false ∧ t.ampHigh = false ∧ t.txdFrame = []) ∧
  (∀ s : State,
      (s.resetLow = true →
        exec .resetnRelease s =
          .next { State.reset with bank := { State.reset.bank with flash := s.bank.flash }, pending := s.pending }) ∧
      (s.resetLow = false → exec .resetnRelease s = .next s)) ∧
  (∀ (c : Instr) (s : State), s.resetLow = true → c ≠ .pinReset → c ≠ .resetnRelease → exec c s = .next s)

/-- The RESET command, in every operating state (10 R166). With a payload it is answered LENGTH and nothing else happens. With
none OK enters first, the runtime state is cleared and the settings are kept, the waiting notices and the rest of the inbox go,
RESET_DONE with cause COMMAND is raised, and the part enters SETUP. -/
def Obligations.ResetCommandClearsRuntime : Prop :=
  (∀ (s u : State) (tag : Byte) (p : List Byte), Takes s ⟨0x03, tag, p⟩ u → p ≠ [] →
    exec (.reset tag p) s = .next (u.replied 0x83 tag .length [])) ∧
  ∀ (s u : State) (tag : Byte), Takes s ⟨0x03, tag, []⟩ u →
    exec (.reset tag []) s = .next
      { u with
        op := .setup
        scanner := { s.scanner with held := [], intervals := [] }
        ring := ⟨[], 0⟩
        intake := { State.reset.intake with settings := s.intake.settings }
        cycle := { State.reset.cycle with triesPerWord := s.cycle.triesPerWord }
        judge := { s.judge with working := none, last := none }
        sources := { State.reset.sources with phrases := s.sources.phrases }
        arbiter := { s.arbiter with running := none }
        cue := { s.cue with running := false, remaining := 0, part := 0, stretch := 0 }
        voice := { s.voice with output := 512, amp := .inactive }
        bank := { s.bank with valid := false, clipCount := 0, size := 0 }
        link := ({ s.link with
          inbox := [], held := none
          outbox := s.link.outbox.filter OutFrame.isReply ++ [.reply ⟨0x83, tag, .ok, []⟩] } : Link).raise
            (.resetDone .command) }

/-! ### The operating state (10 R164 to R171) -/

/-- BEGIN (10 R165) starts the bank check in SETUP and is answered when it completes; in READY and DOZE it is refused with
STATE, and with a payload in SETUP with LENGTH. At the completion (08 R134) the first failing test of the header gives
BANK_BAD with its reason, and a good header makes the bank valid and the part READY with an empty held set. The read command
left on SPI is the model's (log 9), and the completion comes when the sender names it (log 5). -/
def Obligations.BeginAndItsBankCheck : Prop :=
  (∀ (s u : State) (tag : Byte) (p : List Byte), Takes s ⟨0x02, tag, p⟩ u →
      exec (.begin tag p) s = .next
        (if s.op ≠ .setup then u.replied 0x82 tag .state []
         else if p ≠ [] then u.replied 0x82 tag .length []
         else { u with link := { u.link with begun := some tag } })) ∧
  (∀ (s : State) (tag : Byte), s.resetLow = false → s.link.begun = some tag →
      let b := fun a => (flashRead s.bank.flash a).toNat
      let count := b 4 + 256 * b 5
      let size := b 6 + 256 * b 7 + 65536 * b 8
      let u : State := { s with
        bank := { s.bank with spi := [0x03, 0, 0, 0] }, link := { s.link with begun := none } }
      exec .bankCheckComplete s = .next
        (if ¬(b 0 = 0x5A ∧ b 1 = 0x53 ∧ b 2 = 0x42 ∧ b 3 = 0x4B) then u.replied 0x82 tag .bankBad [1]
         else if count < 1 ∨ 4095 < count then u.replied 0x82 tag .bankBad [2]
         else if size < 16 + 5 * count then u.replied 0x82 tag .bankBad [3]
         else
          State.replied
            { u with
              op := .ready, scanner := { s.scanner with held := [], intervals := [] }
              bank := { u.bank with valid := true, clipCount := count, size := size } }
            0x82 tag .ok (le16 count)))

/-- DOZE (10 R168) is accepted in READY when its five conditions hold: the part is in DOZE with AMP inactive and the output code
512. With a key down it wakes in the same step, the model's reading of 'at once' (log 20): OK and then WOKE, which carries the
first held position, the lowest in a state whose scanner is lawful (10 R169), every held key being marked quiet. Where a
condition fails DOZE is refused with STATE, and with a payload in READY with LENGTH. WAKE (10 R170) returns the part from DOZE to
READY with no WOKE and no quiet mark; else it is refused with STATE, and a payload in DOZE with LENGTH. -/
def Obligations.DozeAndWake : Prop :=
  (∀ (s u : State) (tag : Byte), Takes s ⟨0x04, tag, []⟩ u → s.op = .ready → s.cycle.lesson.current = false →
      (∀ src, s.place src = ⟨[], none⟩) → s.arbiter.running = none → s.ring.events = [] → s.intake.passHold = false →
      let v : State := { u.replied 0x84 tag .ok [] with
        op := .doze, voice := { s.voice with amp := .inactive, output := 512 } }
      (s.scanner.held = [] → exec (.doze tag []) s = .next v) ∧
      (∀ (h : HeldEntry) (rest : List HeldEntry), s.scanner.held = h :: rest →
        exec (.doze tag []) s = .next
          { v with
            op := .ready
            scanner := { s.scanner with held := (h :: rest).map fun e => { e with quiet := true } }
            link := v.link.raise (.woke h.position) } ∧
          (ScannerLaw s → ∀ q, s.scanner.isDown q = true → h.position ≤ q))) ∧
  (∀ (s u : State) (tag : Byte), Takes s ⟨0x04, tag, []⟩ u →
      s.op ≠ .ready ∨ s.cycle.lesson.current = true ∨ (∃ src, s.holds src = true) ∨ s.arbiter.running ≠ none ∨
        s.ring.events ≠ [] ∨ s.intake.passHold = true →
      exec (.doze tag []) s = .next (u.replied 0x84 tag .state [])) ∧
  (∀ (s u : State) (tag : Byte) (p : List Byte), Takes s ⟨0x04, tag, p⟩ u → s.op ≠ .ready ∨ p ≠ [] →
      exec (.doze tag p) s = .next (u.replied 0x84 tag (if s.op ≠ .ready then .state else .length) [])) ∧
  (∀ (s u : State) (tag : Byte) (p : List Byte), Takes s ⟨0x05, tag, p⟩ u →
      exec (.wake tag p) s = .next
        (if s.op ≠ .doze then u.replied 0x85 tag .state []
         else if p ≠ [] then u.replied 0x85 tag .length []
         else State.replied { u with op := .ready } 0x85 tag .ok []))

/-- A press that completes in the wake watch (10 R169; the scan before it marked it due, log 15): the completing positions join
the held set and their intervals leave, the other intervals, the key map, the debounce setting and the pass edge stay, every
held key is marked quiet, the part is READY, WOKE carries the lowest held position, and no key event is made. -/
def Obligations.WakingPressWakesQuietly : Prop :=
  ∀ s : State, s.resetLow = false → s.op = .doze → ScannerLaw s →
    let completes := fun q => ∃ i ∈ s.scanner.intervals, i.position = q ∧ i.due = true ∧ s.scanner.isDown q = false
    (∃ q, completes q) →
    ∃ t w, exec .wakingPress s = .next t ∧ SameBut [.op, .scanner, .link] s t ∧ t.op = .ready ∧
      t.scanner = { s.scanner with held := t.scanner.held, intervals := t.scanner.intervals } ∧
      (∀ h ∈ t.scanner.held, h.quiet = true) ∧
      (∀ q, t.scanner.isDown q = true ↔ s.scanner.isDown q = true ∨ completes q) ∧
      (∀ q, completes q → t.scanner.intervalAt q = none) ∧
      (∀ q, ¬completes q → t.scanner.intervalAt q = s.scanner.intervalAt q) ∧
      t.scanner.isDown w = true ∧ (∀ q, t.scanner.isDown q = true → w ≤ q) ∧
      t.link = s.link.raise (.woke w)

/-- The operating state moves at these events only (10 R164): a good bank check (SETUP to READY), DOZE (READY to DOZE), a
waking press or WAKE (DOZE to READY), and the two resets (any state to SETUP). -/
def Obligations.OperatingStateMoves : Prop :=
  ∀ (c : Instr) (s t : State), OutboxLaw s → exec c s = .next t → t.op ≠ s.op →
    (c = .bankCheckComplete ∧ s.op = .setup ∧ t.op = .ready) ∨
    (∃ tag p, c = .doze tag p ∧ s.op = .ready ∧ t.op = .doze) ∨
    (c = .wakingPress ∧ s.op = .doze ∧ t.op = .ready) ∨ (∃ tag p, c = .wake tag p ∧ s.op = .doze ∧ t.op = .ready) ∨
    (c = .pinReset ∧ t.op = .setup) ∨ (c = .resetnRelease ∧ t.op = .setup) ∨
    (∃ tag p, c = .reset tag p ∧ t.op = .setup)

/-! ### Keys (01) -/

/-- SCAN in READY and DOZE, position by position (01 R2): equal states leave no interval, a difference begins one or lets it
age by one scan, and it completes when five scans for each debounce step have passed since it began. The scan only marks a
completed interval due: what its completion does is the step of its own row, and until then later scans age it or drop it, the
model's reading of the table's rows (log 15). -/
def Obligations.ScanDebouncesEveryPosition : Prop :=
  ∀ (s : State) (raw : BitVec 64), s.resetLow = false →
    (s.op = .setup → exec (.scan raw) s = .next s) ∧
    (s.op ≠ .setup → ∃ t, exec (.scan raw) s = .next t ∧ SameBut [.scanner] s t ∧
      t.scanner = { s.scanner with intervals := t.scanner.intervals } ∧
      ∀ p, p < 64 →
        t.scanner.intervalAt p =
          if raw.getLsbD p = s.scanner.isDown p then none
          else
            match s.scanner.intervalAt p with
            | none => some ⟨p, 0, false⟩
            | some i => some ⟨p, i.age + 1, decide (5 * s.scanner.debounce ≤ i.age + 1)⟩)

/-- A press interval completes in READY (01 R5): the position joins the held set unmarked, its interval leaves, and an event
is offered to the ring for every role but NONE, and for PASS unless the pass-edge setting is RELEASE. A release interval
completes in READY or DOZE (01 R6, 10 R169): the position leaves the held set with its interval, and a PASS key makes a RELEASE
event in READY unless its entry is quiet or the pass-edge setting is PRESS. That the completion is a step after its scan, the
lowest due position first, is log 15. -/
def Obligations.PressAndReleaseMakeTheirEvents : Prop :=
  (∀ (s : State) (p : Nat), s.resetLow = false → s.op = .ready → s.scanner.completes p = true →
      s.scanner.isDown p = false →
      ∃ t, exec (.pressIntervalComplete p) s = .next t ∧ SameBut [.scanner, .ring, .link] s t ∧
        t.scanner = { s.scanner with held := t.scanner.held, intervals := t.scanner.intervals } ∧
        (∀ q, t.scanner.isDown q = (decide (q = p) || s.scanner.isDown q)) ∧
        (∀ h, h ∈ t.scanner.held ↔ h = ⟨p, false⟩ ∨ h ∈ s.scanner.held) ∧
        t.scanner.intervalAt p = none ∧ (∀ q, q ≠ p → t.scanner.intervalAt q = s.scanner.intervalAt q) ∧
        if (s.scanner.record p).role ≠ .none ∧ ((s.scanner.record p).role = .pass → s.scanner.passEdge ≠ .release) then
          RingReceives s t ⟨p, (s.scanner.record p).role, (s.scanner.record p).symbol, .press⟩
        else t.ring = s.ring ∧ t.link = s.link) ∧
  (∀ (s : State) (p : Nat), s.resetLow = false → s.op ≠ .setup → s.scanner.completes p = true →
      s.scanner.isDown p = true →
      ∃ t, exec (.releaseIntervalComplete p) s = .next t ∧ SameBut [.scanner, .ring, .link] s t ∧
        t.scanner = { s.scanner with held := t.scanner.held, intervals := t.scanner.intervals } ∧
        (∀ h, h ∈ t.scanner.held ↔ h ∈ s.scanner.held ∧ h.position ≠ p) ∧
        t.scanner.intervalAt p = none ∧ (∀ q, q ≠ p → t.scanner.intervalAt q = s.scanner.intervalAt q) ∧
        if s.op = .ready ∧ s.scanner.isQuiet p = false ∧ (s.scanner.record p).role = .pass ∧
            s.scanner.passEdge ≠ .press then
          RingReceives s t ⟨p, .pass, (s.scanner.record p).symbol, .release⟩
        else t.ring = s.ring ∧ t.link = s.link)

/-- SET_KEYS, accepted (01 R3, R9, R10): the debounce setting is stored within 1 to 8 and returned, the pass-edge setting and
the records of the run are stored, and the other positions, the held set and the intervals stay. -/
def Obligations.SetKeysStoresTheRun : Prop :=
  ∀ (s u : State) (tag d e first : Byte) (recs : List (Byte × Byte)),
    Takes s ⟨0x10, tag, d :: e :: first :: recs.flatMap fun r => [r.1, r.2]⟩ u →
    s.op ≠ .doze → s.cycle.lesson.current = false → s.scanner.keyMap.length = 64 →
    recs ≠ [] → e.toNat ≤ 2 → first.toNat + recs.length ≤ 64 →
    (∀ r ∈ recs, r.1.toNat ≤ 7 ∧ r.2.toNat ≤ 28 ∧ (r.1.toNat = 1 → 1 ≤ r.2.toNat)) →
    ∃ t, exec (.setKeys tag (d :: e :: first :: recs.flatMap fun r => [r.1, r.2])) s = .next t ∧
      SameBut [.scanner, .link] s t ∧
      t.link = (u.replied 0x90 tag .ok [byteOf (max 1 (min 8 d.toNat))]).link ∧
      t.scanner.debounce = max 1 (min 8 d.toNat) ∧ passEdgeOf e.toNat = some t.scanner.passEdge ∧
      t.scanner.held = s.scanner.held ∧ t.scanner.intervals = s.scanner.intervals ∧
      t.scanner.keyMap.length = 64 ∧
      ∀ i, i < 64 →
        t.scanner.keyMap[i]? =
          if first.toNat ≤ i ∧ i < first.toNat + recs.length then
            (recs[i - first.toNat]?).bind fun r => (roleOf r.1.toNat).map fun role => ⟨role, r.2.toNat⟩
          else s.scanner.keyMap[i]?

/-! ### The head of the ring (02) -/

/-- TAKE_PASS (02 R21, R32, R34): in READY with the pass hold closed a PASS head leaves the ring, is raised as a KEY_PASS
entry, and opens the pass hold when pass-hold is on; with the pass hold open it waits, and its row leaves the state as it is
(log 3). DISCARD_HEAD (02 R22): with the lesson
EMPTY, LOADED or FINISHED and the pass hold closed a head that is not PASS leaves the ring and nothing else happens. -/
def Obligations.PassHeadsAndDiscardedHeads : Prop :=
  (∀ (s : State) (e : KeyEvent) (rest : List KeyEvent), s.resetLow = false → s.op = .ready →
      s.ring.events = e :: rest → e.role = .pass → s.intake.passHold = false →
      exec .takePass s = .next { s with
        ring := { s.ring with events := rest }
        intake := { s.intake with passHold := s.intake.settings.passHold }
        link := s.link.raise (.keyPass false [⟨e.position, e.symbol, e.edge⟩]) }) ∧
  (∀ s : State, s.intake.passHold = true → exec .takePass s = .next s) ∧
  (∀ (s : State) (e : KeyEvent) (rest : List KeyEvent), s.resetLow = false → s.op = .ready →
      s.ring.events = e :: rest → e.role ≠ .pass → s.cycle.lesson.current = false → s.intake.passHold = false →
      exec .discardHead s = .next { s with ring := { s.ring with events := rest } })

/-- Heads wait (02 R22, R34): no head is taken while the pass hold is open, and none but PASS while the lesson is PAUSED, or
RUNNING in another phase than ANSWERING, or with the letter hold open. That the row of a waiting head answers the state as it is,
is the model's choice (log 3). The intake state is the first row of the table of 02 R19 that holds. -/
def Obligations.HeadsWait : Prop :=
  (∀ s : State,
    let answering := s.cycle.lesson = .running ∧ s.cycle.phase = .answering
    (s.intakeState = .heldPass ↔ s.intake.passHold = true) ∧
    (s.intakeState = .heldLetter ↔ s.intake.passHold = false ∧ s.intake.letterHold = true) ∧
    (s.intakeState = .taking ↔ s.intake.passHold = false ∧ s.intake.letterHold = false ∧ answering) ∧
    (s.intakeState = .idle ↔ s.intake.passHold = false ∧ s.intake.letterHold = false ∧ ¬answering)) ∧
  ∀ (s : State) (c : Instr),
    c ∈ [Instr.takePass, .discardHead, .takeLetter, .takeRubout, .takeGo, .takeSpace, .takeHear, .takeHint] →
    (s.intake.passHold = true ∨
      (c ≠ .takePass ∧
        (s.cycle.lesson = .paused ∨
          (s.cycle.lesson = .running ∧ (s.cycle.phase ≠ .answering ∨ s.intake.letterHold = true))))) →
    exec c s = .next s

/-- A letter passes the check in force: FREE, or accepted by the guided check (02 R24). With room in the Attempt it is appended
(02 R25; 05 R89 to R91; 07 R125): the echo reaches the ECHO source under its policy, the Cue Timer is loaded with
cues-this-stretch 0, and the letter hold opens with each-hold on. The cut-in test is made when the echo arrives and again when
the timer is loaded (06 R111, log 19), but for SNAP on a sounding echo, which fades it out. A full Attempt drops it: the first
one of the try sets the attempt-full flag and raises ATTEMPT_FULL with the current word index, and later ones do nothing more.
-/
def Obligations.LetterIsTyped : Prop :=
  (∀ (s : State) (e : KeyEvent) (rest : List KeyEvent), s.actingHead e rest → e.role = .letter →
      (s.intake.settings.checkMode = .free ∨
        guidedAccepts s.judge.rule s.target s.intake.attempt e.symbol = true) →
      s.intake.attempt.length < 24 →
      let echo := partUtterance .echo .echo [.letter e.symbol]
      ∃ t, exec .takeLetter s = .next t ∧ SameBut [.ring, .intake, .cue, .sources, .arbiter] s t ∧
        t.ring = { s.ring with events := rest } ∧
        t.intake = { s.intake with
          attempt := s.intake.attempt ++ [e.symbol], letterHold := s.intake.settings.eachHold } ∧
        t.cue = s.cue.loaded 0 ∧ t.sources.phrases = s.sources.phrases ∧
        (∀ src, src ≠ .echo → t.place src = s.place src) ∧
        t.place .echo =
          (match s.arbiter.echoPolicy with
          | .queue =>
            if (s.place .echo).pending.length < 4 then
              { s.place .echo with pending := (s.place .echo).pending ++ [echo] }
            else s.place .echo
          | .latest => { s.place .echo with pending := [echo] }
          | .snap => ⟨[echo], none⟩) ∧
        (s.arbiter.running = none → t.arbiter = s.arbiter) ∧
        (∀ r, s.arbiter.running = some r → s.arbiter.echoPolicy = .snap → r.utterance.source = .echo →
          t.arbiter = { s.arbiter with
            running := some { r with
              state := match r.state with
                | .playing => .fading .discardCut 0
                | .fading .restore n => .fading .discardCut n
                | .fading .discardCut n => .fading .discardCut n
                | .fading .discardStopped n => .fading .discardStopped n } }) ∧
        (∀ r, s.arbiter.running = some r → s.arbiter.echoPolicy ≠ .snap ∨ r.utterance.source ≠ .echo →
          let arrived : Arbiter :=
            if s.arbiter.echoPolicy = .queue ∧ 4 ≤ (s.place .echo).pending.length then s.arbiter
            else ({ t with arbiter := s.arbiter, cue := s.cue } : State).cutInTest.arbiter
          t.arbiter = ({ t with arbiter := arrived } : State).cutInTest.arbiter) ∧
        t.cutInTest = t) ∧
  (∀ (s : State) (e : KeyEvent) (rest : List KeyEvent), s.actingHead e rest → e.role = .letter →
      (s.intake.settings.checkMode = .free ∨
        guidedAccepts s.judge.rule s.target s.intake.attempt e.symbol = true) →
      24 ≤ s.intake.attempt.length →
      exec .takeLetter s = .next
        (if s.intake.attemptFull = true then { s with ring := { s.ring with events := rest } }
         else { s with
          ring := { s.ring with events := rest }, intake := { s.intake with attemptFull := true }
          link := s.link.raise (.attemptFull s.cycle.index) }))

/-- The guided check (02 R26): under STRICT the expected symbol is the target's next after the Attempt's length; under SKIP a
typed mark passes and the letters of the Attempt count along the letters of the target. A refused letter (02 R27): the
refusals of the word and, in the tally window, the letter-error tally rise, an OOPS joins VERDICT when it holds fewer than 4,
and the Attempt, the Cue Timer and the holds stay. -/
def Obligations.GuidedCheckAndRefusal : Prop :=
  (∀ (T A : List Nat) (sym : Nat),
      guidedAccepts .strict T A sym = decide (T[A.length]? = some sym) ∧
      (isMark sym = true → guidedAccepts .skip T A sym = true) ∧
      (isMark sym = false →
        guidedAccepts .skip T A sym =
          decide ((T.filter fun x => !isMark x)[(A.filter fun x => !isMark x).length]? = some sym))) ∧
  (∀ (s : State) (e : KeyEvent) (rest : List KeyEvent), s.actingHead e rest → e.role = .letter →
      s.intake.settings.checkMode = .guided →
      guidedAccepts s.judge.rule s.target s.intake.attempt e.symbol = false →
      ∃ t, exec .takeLetter s = .next t ∧ SameBut [.ring, .cycle, .judge, .sources, .arbiter] s t ∧
        t.ring = { s.ring with events := rest } ∧
        t.cycle = { s.cycle with
          results := s.cycle.results.modify s.cycle.index fun r => { r with refusals := min 255 (r.refusals + 1) } } ∧
        t.judge = { s.judge with
          letterErrors :=
            if s.judge.windowStart ≤ s.cycle.index ∧ s.cycle.index < s.judge.windowStart + s.judge.windowLength then
              min 65535 (s.judge.letterErrors + 1)
            else s.judge.letterErrors } ∧
        t.sources.phrases = s.sources.phrases ∧ (∀ src, src ≠ .verdict → t.place src = s.place src) ∧
        (if (s.place .verdict).pending.length < 4 then
          t.place .verdict = { s.place .verdict with
            pending := (s.place .verdict).pending ++ [partUtterance .verdict .oops [s.phraseItem 7]] } ∧
          CutInTested s t
        else t.place .verdict = s.place .verdict ∧ t.arbiter = s.arbiter))

/-- RUBOUT (02 R28): the last symbol leaves the Attempt, the most recently added pending echo of it is withdrawn, and the Cue
Timer is restarted with cues-this-stretch kept; with an empty Attempt only the timer is restarted. -/
def Obligations.RuboutTakesBack : Prop :=
  ∀ (s : State) (e : KeyEvent) (rest : List KeyEvent), s.actingHead e rest → e.role = .rubout →
    ∃ t, exec .takeRubout s = .next t ∧ SameBut [.ring, .intake, .cue, .sources, .arbiter] s t ∧
      t.ring = { s.ring with events := rest } ∧
      t.intake = { s.intake with attempt := s.intake.attempt.dropLast } ∧
      t.cue = s.cue.loaded s.cue.stretch ∧ t.sources.phrases = s.sources.phrases ∧
      (∀ src, src ≠ .echo → t.place src = s.place src) ∧ (t.place .echo).backup = (s.place .echo).backup ∧
      (s.intake.attempt = [] → (t.place .echo).pending = (s.place .echo).pending) ∧
      (∀ sym, s.intake.attempt.getLast? = some sym →
        ((∀ u ∈ (s.place .echo).pending, u.echoes sym = false) →
          (t.place .echo).pending = (s.place .echo).pending) ∧
        (∀ before u after, (s.place .echo).pending = before ++ u :: after → u.echoes sym = true →
          (∀ v ∈ after, v.echoes sym = false) → (t.place .echo).pending = before ++ after)) ∧
      CutInTested s t

/-- GO, and SPACE with space-ends-word on, with something typed (02 R29; 03 R54; 04 R63): judging begins. -/
def Obligations.GoBeginsJudging : Prop :=
  ∀ (s : State) (c : Instr) (e : KeyEvent) (rest : List KeyEvent), s.actingHead e rest →
    ((c = .takeGo ∧ e.role = .go) ∨
      (c = .takeSpace ∧ e.role = .space ∧ s.intake.settings.spaceEndsWord = true)) →
    s.intake.attempt ≠ [] → s.cycle.index < s.cycle.results.length →
    ∃ t, exec c s = .next t ∧ SameBut [.ring, .cycle, .judge, .sources, .cue, .arbiter] s t ∧
      t.ring = { s.ring with events := rest } ∧
      t.cycle = { s.cycle with
        phase := .judging
        results := s.cycle.results.modify s.cycle.index fun r => { r with tries := r.tries + 1 } } ∧
      t.judge = { s.judge with
        working := some ⟨s.cycle.index, s.currentResult.tries + 1, s.intake.attempt, s.target, s.judge.rule,
          s.judge.pairs⟩ } ∧
      t.cue = s.cue.stopped ∧ t.sources.phrases = s.sources.phrases ∧
      (∀ src, src ≠ .verdict → t.place src = s.place src) ∧
      t.place .verdict =
        ⟨(s.place .verdict).pending.filter fun u => decide (u.kind ≠ .oops ∧ u.kind ≠ .hint),
          (s.place .verdict).backup.filter fun u => decide (u.kind ≠ .oops ∧ u.kind ≠ .hint)⟩ ∧
      CutInTested s t

/-- HEAR, and GO or an ends-word SPACE with nothing typed (02 R29, R30): the WORD source receives a HEAR_PROMPT when its
slot, its backup slot and the running place hold no WORD utterance, and otherwise only the head leaves. SPACE with
space-ends-word off is taken and ignored. -/
def Obligations.HearRequests : Prop :=
  (∀ (s : State) (c : Instr) (e : KeyEvent) (rest : List KeyEvent), s.actingHead e rest →
      ((c = .takeHear ∧ e.role = .hear) ∨ (c = .takeGo ∧ e.role = .go ∧ s.intake.attempt = []) ∨
        (c = .takeSpace ∧ e.role = .space ∧ s.intake.settings.spaceEndsWord = true ∧ s.intake.attempt = [])) →
      (s.place .word = ⟨[], none⟩ ∧ s.sounding .word = false →
        ∃ t, exec c s = .next t ∧ SameBut [.ring, .sources, .arbiter] s t ∧
          t.ring = { s.ring with events := rest } ∧ t.sources.phrases = s.sources.phrases ∧
          (∀ src, src ≠ .word → t.place src = s.place src) ∧
          t.place .word = ⟨[partUtterance .word .hearPrompt [.word, .sentence, .word]], none⟩ ∧ CutInTested s t) ∧
      (s.place .word ≠ ⟨[], none⟩ ∨ s.sounding .word = true →
        exec c s = .next { s with ring := { s.ring with events := rest } })) ∧
  (∀ (s : State) (e : KeyEvent) (rest : List KeyEvent), s.actingHead e rest → e.role = .space →
      s.intake.settings.spaceEndsWord = false →
      exec .takeSpace s = .next { s with ring := { s.ring with events := rest } })

/-- HINT (02 R31). The matched prefix is the greatest k for which the first k symbols of both lists agree, and the three cases
of the rule decide, over the Attempt and the target reduced by the mark rule. -/
def Obligations.HintSpeaksTheNextSymbol : Prop :=
  (∀ A T : List Nat,
      matchedLength A T ≤ A.length ∧ matchedLength A T ≤ T.length ∧
        A.take (matchedLength A T) = T.take (matchedLength A T) ∧
        ∀ k, k ≤ A.length → k ≤ T.length → A.take k = T.take k → k ≤ matchedLength A T) ∧
  (∀ (s : State) (e : KeyEvent) (rest : List KeyEvent) (w : WordRecord), s.actingHead e rest → e.role = .hint →
      s.currentWord = some w →
      let A := reduce s.judge.rule s.intake.attempt
      let T := reduce s.judge.rule w.spelling
      let p := matchedLength A T
      (4 ≤ (s.place .verdict).pending.length →
        exec .takeHint s = .next { s with ring := { s.ring with events := rest } }) ∧
      ((s.place .verdict).pending.length < 4 →
        ∃ t, exec .takeHint s = .next t ∧ SameBut [.ring, .cycle, .sources, .arbiter] s t ∧
          t.ring = { s.ring with events := rest } ∧ t.sources.phrases = s.sources.phrases ∧
          (∀ src, src ≠ .verdict → t.place src = s.place src) ∧
          (t.place .verdict).backup = (s.place .verdict).backup ∧
          (if s.currentResult.hints < w.hintsAllowed ∧ p < T.length then
            t.cycle = { s.cycle with
              results := s.cycle.results.modify s.cycle.index fun r => { r with hints := r.hints + 1 } } ∧
            (t.place .verdict).pending =
              (s.place .verdict).pending ++ [partUtterance .verdict .hint [.letter (T.getD p 0)]]
          else
            t.cycle = s.cycle ∧
            (t.place .verdict).pending =
              (s.place .verdict).pending ++ [partUtterance .verdict .hint [s.phraseItem 6]]) ∧
          CutInTested s t))

/-- RELEASE LETTER and RELEASE PASS (02 R35): in READY an open hold closes, and a closed one is answered NOT_HELD; each acts
on its own hold alone. Every RELEASE outside READY is refused with STATE, of another size with LENGTH and with an undefined
target with RANGE; a frame with no target may be brought by any of the three rows (log 11). -/
def Obligations.ReleaseClosesItsHold : Prop :=
  (∀ (s u : State) (tag : Byte) (p : List Byte) (c : Instr), Takes s ⟨0x27, tag, p⟩ u →
    c ∈ [Instr.releaseLetter tag p, .releasePass tag p, .releaseWord tag p] →
    (∀ target, p = [target] → target.toNat ≤ 2 →
      c = if target = 0 then .releaseLetter tag p else if target = 1 then .releasePass tag p else .releaseWord tag p) →
    (s.op ≠ .ready → exec c s = .next (u.replied 0xA7 tag .state [])) ∧
    (s.op = .ready → p.length ≠ 1 → exec c s = .next (u.replied 0xA7 tag .length [])) ∧
    (s.op = .ready → p.length = 1 → 2 < field p 0 → exec c s = .next (u.replied 0xA7 tag .range []))) ∧
  ∀ (s u : State) (tag : Byte), s.op = .ready →
    (Takes s ⟨0x27, tag, [0]⟩ u →
      exec (.releaseLetter tag [0]) s = .next
        (if s.intake.letterHold = true then
          State.replied { u with intake := { s.intake with letterHold := false } } 0xA7 tag .ok []
        else u.replied 0xA7 tag .notHeld [])) ∧
    (Takes s ⟨0x27, tag, [1]⟩ u →
      exec (.releasePass tag [1]) s = .next
        (if s.intake.passHold = true then
          State.replied { u with intake := { s.intake with passHold := false } } 0xA7 tag .ok []
        else u.replied 0xA7 tag .notHeld []))

/-! ### Settings -/

/-- SET_PHRASES (05 R95) and SET_VOICE (08 R146), accepted in every operating state and lesson state, and SET_WINDOW
(04 R80), refused in DOZE alone: their checks in order, and what they store. -/
def Obligations.SettingsTakenAtAnyTime : Prop :=
  (∀ (s u : State) (tag : Byte) (p : List Byte), Takes s ⟨0x13, tag, p⟩ u →
    exec (.setPhrases tag p) s = .next
      (if p.length ≠ 16 then u.replied 0x93 tag .length []
       else
        State.replied
          { u with
            sources := { s.sources with
              phrases := [field16 p 0, field16 p 2, field16 p 4, field16 p 6, field16 p 8, field16 p 10,
                field16 p 12, field16 p 14] } }
          0x93 tag .ok [])) ∧
  (∀ (s u : State) (tag : Byte) (p : List Byte), Takes s ⟨0x18, tag, p⟩ u →
    exec (.setVoice tag p) s = .next
      (if p.length ≠ 5 then u.replied 0x98 tag .length []
       else if 2 < field p 4 then u.replied 0x98 tag .range []
       else
        State.replied
          { u with
            voice := { s.voice with
              gain := field p 0, itemGap := field p 1, leadGap := field p 2, letterGap := field p 3
              echoStyle := if field p 4 = 0 then .names else if field p 4 = 1 then .sounds else .perLetter } }
          0x98 tag .ok [])) ∧
  (∀ (s u : State) (tag : Byte) (p : List Byte), Takes s ⟨0x2A, tag, p⟩ u →
    exec (.setWindow tag p) s = .next
      (if s.op = .doze then u.replied 0xAA tag .state []
       else if p.length ≠ 2 then u.replied 0xAA tag .length []
       else if 31 < field p 0 ∨ field p 1 = 0 ∨ 32 < field p 1 then u.replied 0xAA tag .range []
       else
        State.replied
          { u with
            judge := { s.judge with
              windowStart := field p 0, windowLength := field p 1
              letterErrors := 0, attemptsJudged := 0, exactCount := 0 } }
          0xAA tag .ok []))

/-- SET_INTAKE (02 R36), SET_CUE (07 R131) and SET_JUDGE (04 R78; 03 R55), accepted in SETUP, and in READY with no lesson
under way: what they store, held within its range, and what they return. -/
def Obligations.LessonSettingsAreStored : Prop :=
  (∀ (s u : State) (tag : Byte) (a b c d e m : Bool),
    Takes s ⟨0x11, tag, [flagByte a, flagByte b, flagByte c, flagByte d, flagByte e, flagByte m]⟩ u →
    s.op ≠ .doze → s.cycle.lesson.current = false →
    exec (.setIntake tag [flagByte a, flagByte b, flagByte c, flagByte d, flagByte e, flagByte m]) s =
      .next (State.replied
        { u with
          intake := { s.intake with settings := ⟨a, b, c, d, e, if m = true then .guided else .free⟩ } }
        0x91 tag .ok [])) ∧
  (∀ (s u : State) (tag r0 r1 b0 b1 lim : Byte), Takes s ⟨0x16, tag, [r0, r1, b0, b1, lim]⟩ u →
    s.op ≠ .doze → s.cycle.lesson.current = false →
    let reload := max 1 (min 600 (r0.toNat + 256 * r1.toNat))
    let boundary := min 600 (b0.toNat + 256 * b1.toNat)
    let limit := min 7 lim.toNat
    exec (.setCue tag [r0, r1, b0, b1, lim]) s = .next (State.replied
      { u with cue := { s.cue with reload := reload, boundary := boundary, limit := limit } }
      0x96 tag .ok (le16 reload ++ le16 boundary ++ [byteOf limit]))) ∧
  (∀ (s u : State) (tag th tries rule : Byte), Takes s ⟨0x17, tag, [th, tries, rule]⟩ u →
    s.op ≠ .doze → s.cycle.lesson.current = false → rule.toNat ≤ 1 →
    exec (.setJudge tag [th, tries, rule]) s = .next (State.replied
      { u with
        judge := { s.judge with
          closeThreshold := max 50 (min 99 th.toNat), rule := if rule.toNat = 0 then .strict else .skip }
        cycle := { s.cycle with triesPerWord := max 1 (min 7 tries.toNat) } }
      0x97 tag .ok [byteOf (max 50 (min 99 th.toNat)), byteOf (max 1 (min 7 tries.toNat))]))

/-- The settings that shape a lesson are refused. SET_KEYS (01 R10) in the order of its own rule: with STATE where it is not
accepted, in DOZE or while a lesson is under way, then with LENGTH for a wrong size, then with RANGE for a value that has no
meaning. The others (02 R36; 04 R65, R78; 06 R119; 07 R131; 08 R147) in the order of 09 R156 (log 10): with STATE in DOZE, with
LENGTH, with STATE while a lesson is under way, and with RANGE; nothing else changes. -/
def Obligations.LessonSettingsAreRefused : Prop :=
  ∀ (s u : State) (tag : Byte) (p : List Byte),
    let refused := fun (kind : Byte) (sized bad : Prop) (o : Host.Outcome State Fault Refusal) =>
      Takes s ⟨kind, tag, p⟩ u →
        (s.op = .doze → o = .next (u.replied (kind + 0x80) tag .state [])) ∧
        (s.op ≠ .doze → ¬sized → o = .next (u.replied (kind + 0x80) tag .length [])) ∧
        (s.op ≠ .doze → sized → s.cycle.lesson.current = true → o = .next (u.replied (kind + 0x80) tag .state [])) ∧
        (s.op ≠ .doze → sized → s.cycle.lesson.current = false → bad →
          o = .next (u.replied (kind + 0x80) tag .range []))
    let byte := field p
    (Takes s ⟨0x10, tag, p⟩ u →
      let sized := 5 ≤ p.length ∧ (p.length - 3) % 2 = 0
      let bad := 2 < byte 1 ∨ 63 < byte 2 ∨ 64 < byte 2 + (p.length - 3) / 2 ∨
        ∃ i, i < (p.length - 3) / 2 ∧
          (7 < byte (3 + 2 * i) ∨ 28 < byte (4 + 2 * i) ∨ (byte (3 + 2 * i) = 1 ∧ byte (4 + 2 * i) = 0))
      (s.op = .doze ∨ s.cycle.lesson.current = true →
        exec (.setKeys tag p) s = .next (u.replied 0x90 tag .state [])) ∧
      (s.op ≠ .doze → s.cycle.lesson.current = false → ¬sized →
        exec (.setKeys tag p) s = .next (u.replied 0x90 tag .length [])) ∧
      (s.op ≠ .doze → s.cycle.lesson.current = false → sized → bad →
        exec (.setKeys tag p) s = .next (u.replied 0x90 tag .range []))) ∧
    refused 0x11 (p.length = 6) (∃ i, i < 6 ∧ 1 < byte i) (exec (.setIntake tag p) s) ∧
    refused 0x12 (9 ≤ p.length ∧ (p.length - 1) % 8 = 0)
      (byte 0 = 0 ∨ 28 < byte 0 ∨ 29 < byte 0 + (p.length - 1) / 8 ∨
        ∃ i, i < (p.length - 1) / 8 ∧ 3 < byte (1 + 8 * i))
      (exec (.setLetters tag p) s) ∧
    refused 0x14 (1 ≤ p.length ∧ byte 0 ≤ 16 ∧ p.length = 1 + 2 * byte 0)
      (∃ i, i < byte 0 ∧
        (byte (1 + 2 * i) = 0 ∨ 26 < byte (1 + 2 * i) ∨ byte (2 + 2 * i) = 0 ∨ 26 < byte (2 + 2 * i) ∨
          byte (1 + 2 * i) = byte (2 + 2 * i)))
      (exec (.setPairs tag p) s) ∧
    refused 0x15 (p.length = 14) ((∃ i, i < 6 ∧ 1 < byte (2 * i + 1)) ∨ 2 < byte 12) (exec (.setSources tag p) s) ∧
    refused 0x16 (p.length = 5) False (exec (.setCue tag p) s) ∧
    refused 0x17 (p.length = 3) (1 < byte 2) (exec (.setJudge tag p) s)

/-- SET_PAIRS (04 R64, R65) and SET_LETTERS (08 R147), accepted: the pair list holds each pair sent once, in order, and makes
the same letters paired; the map entries of the run replace those of its symbols and the others stay. -/
def Obligations.PairsAndLettersAreStored : Prop :=
  (∀ (s u : State) (tag : Byte) (ps : List (Byte × Byte)),
    Takes s ⟨0x14, tag, byteOf ps.length :: ps.flatMap fun r => [r.1, r.2]⟩ u →
    s.op ≠ .doze → s.cycle.lesson.current = false → ps.length ≤ 16 →
    (∀ r ∈ ps, 1 ≤ r.1.toNat ∧ r.1.toNat ≤ 26 ∧ 1 ≤ r.2.toNat ∧ r.2.toNat ≤ 26 ∧ r.1 ≠ r.2) →
    ∃ held : List (Nat × Nat),
      exec (.setPairs tag (byteOf ps.length :: ps.flatMap fun r => [r.1, r.2])) s =
        .next (State.replied { u with judge := { s.judge with pairs := held } } 0x94 tag .ok [byteOf held.length]) ∧
      held.Sublist (ps.map fun r => (r.1.toNat, r.2.toNat)) ∧
      held.Pairwise (fun p q => ¬((p.1 = q.1 ∧ p.2 = q.2) ∨ (p.1 = q.2 ∧ p.2 = q.1))) ∧
      ∀ a b, paired held a b = true ↔
        ∃ r ∈ ps, (r.1.toNat = a ∧ r.2.toNat = b) ∨ (r.1.toNat = b ∧ r.2.toNat = a)) ∧
  (∀ (s u : State) (tag first : Byte) (es : List (List Byte)),
    Takes s ⟨0x12, tag, first :: es.flatten⟩ u → s.op ≠ .doze → s.cycle.lesson.current = false →
    s.voice.letterMap.length = 28 → es ≠ [] → 1 ≤ first.toNat → first.toNat + es.length ≤ 29 →
    (∀ e ∈ es, e.length = 8 ∧ field e 0 ≤ 3) →
    ∃ m : List MapEntry,
      exec (.setLetters tag (first :: es.flatten)) s =
        .next (State.replied { u with voice := { s.voice with letterMap := m } } 0x92 tag .ok []) ∧
      m.length = 28 ∧
      ∀ i, i < 28 →
        m[i]? =
          if first.toNat ≤ i + 1 ∧ i + 1 < first.toNat + es.length then
            (es[i + 1 - first.toNat]?).bind fun e =>
              (mapModeOf (field e 0)).map fun mode =>
                ⟨mode, field16 e 1, field16 e 3, field16 e 5, min 7 (field e 7)⟩
          else s.voice.letterMap[i]?)

/-- SET_SOURCES, accepted (06 R118 to R120; 05 R89, R92): the six levels within 0 to 3, the six cut-in flags, the echo policy
and the low mark are stored, the levels and the low mark returned, and the cut-in test is made. -/
def Obligations.SetSourcesStoresAndTests : Prop :=
  ∀ (s u : State) (tag : Byte) (p : List Byte), Takes s ⟨0x15, tag, p⟩ u → s.op ≠ .doze →
    s.cycle.lesson.current = false → p.length = 14 → (∀ i, i < 6 → field p (2 * i + 1) ≤ 1) → field p 12 ≤ 2 →
    ∃ a : Arbiter, ∃ t : State,
      a.running = s.arbiter.running ∧ a.lowMark = min 15 (field p 13) ∧ echoPolicyOf (field p 12) = some a.echoPolicy ∧
      (∀ (i : Nat) (src : Source), tieOrder[i]? = some src →
        a.settings.get src = ⟨min 3 (field p (2 * i)), decide (field p (2 * i + 1) = 1)⟩) ∧
      exec (.setSources tag p) s = .next (t.replied 0x95 tag .ok
        [byteOf (min 3 (field p 0)), byteOf (min 3 (field p 2)), byteOf (min 3 (field p 4)),
          byteOf (min 3 (field p 6)), byteOf (min 3 (field p 8)), byteOf (min 3 (field p 10)),
          byteOf (min 15 (field p 13))]) ∧
      SameBut [.arbiter] u t ∧ CutInTested { u with arbiter := a } t

/-! ### Queries -/

/-- STATUS (10 R171), GET_ATTEMPT (02 R37), GET_TALLY (04 R81) and GET_RESULTS (03 R60): where they are accepted, how they are
refused, what their replies carry, byte by byte in the order of 11 R176, and that they change nothing. STATUS's byte 12 has bit i
set exactly when source i of the tie order has a filled backup. GET_ATTEMPT's lists stand at their full size with 0 past their
length, and with no last judgement bytes 27 to 81 are 0. -/
def Obligations.QueriesReportAndChangeNothing : Prop :=
  (∀ (s u : State) (tag : Byte) (p : List Byte), Takes s ⟨0x01, tag, p⟩ u →
    exec (.status tag p) s = .next
      (if p ≠ [] then u.replied 0x81 tag .length [] else u.replied 0x81 tag .ok u.statusPayload) ∧
    let running := s.arbiter.running
    u.statusPayload =
      [s.op.code, s.cycle.lesson.code, byteOf s.cycle.index, s.cycle.phase.code, s.intakeState.code,
        byteOf s.intake.attempt.length,
        (running.map fun r => r.utterance.source.code).getD 0xFF, (running.map fun r => r.utterance.kind.code).getD 0,
        (running.map fun r => r.state.code).getD 0,
        byteOf (s.place .queue).pending.length, byteOf (s.place .echo).pending.length,
        byteOf (s.place .verdict).pending.length, byteOf s.backupBits, s.timerState.code,
        byteOf s.cue.remaining, byteOf (s.cue.remaining / 256), flagByte s.lockOn,
        byteOf s.currentResult.tries, byteOf s.currentResult.hints,
        byteOf s.bank.clipCount, byteOf (s.bank.clipCount / 256)] ∧
    (∀ (i : Nat) (src : Source), tieOrder[i]? = some src →
      (byteOf s.backupBits).getLsbD i = (s.place src).backup.isSome) ∧
    (byteOf s.backupBits).getLsbD 6 = false ∧ (byteOf s.backupBits).getLsbD 7 = false) ∧
  (∀ (s u : State) (tag : Byte) (p : List Byte), Takes s ⟨0x28, tag, p⟩ u →
    exec (.getAttempt tag p) s = .next
      (if s.op ≠ .ready then u.replied 0xA8 tag .state []
       else if p ≠ [] then u.replied 0xA8 tag .length []
       else u.replied 0xA8 tag .ok s.attemptPayload) ∧
    let byte := fun i => s.attemptPayload[i]?
    s.attemptPayload.length = 82 ∧ byte 0 = some (byteOf s.intake.attempt.length) ∧
    (∀ i, i < 24 → byte (1 + i) = some (byteOf (s.intake.attempt.getD i 0))) ∧
    byte 25 = some (flagByte s.intake.attemptFull) ∧ byte 26 = some s.intakeState.code ∧
    (s.judge.last = none → ∀ i, 27 ≤ i → i < 82 → byte i = some 0) ∧
    (∀ j, s.judge.last = some j →
      byte 27 = some 1 ∧ byte 28 = some (byteOf j.wordIndex) ∧ byte 29 = some (byteOf j.tryNumber) ∧
      byte 30 = some (byteOf j.attempt.length) ∧ (∀ i, i < 24 → byte (31 + i) = some (byteOf (j.attempt.getD i 0))) ∧
      byte 55 = some j.rule.code ∧ byte 56 = some (byteOf j.marks.length) ∧
      (∀ i, i < 20 → byte (57 + i) = some ((j.marks[i]?.map Mark.code).getD 0)) ∧
      byte 77 = some (byteOf j.extra) ∧ byte 78 = some (byteOf j.letterErrors) ∧
      byte 79 = some (byteOf j.distance) ∧ byte 80 = some (byteOf j.score) ∧ byte 81 = some j.verdict.code)) ∧
  (∀ (s u : State) (tag : Byte) (p : List Byte), Takes s ⟨0x2B, tag, p⟩ u →
    exec (.getTally tag p) s = .next
      (if s.op ≠ .ready then u.replied 0xAB tag .state []
       else if p ≠ [] then u.replied 0xAB tag .length []
       else u.replied 0xAB tag .ok
        ([byteOf s.judge.windowStart, byteOf s.judge.windowLength] ++ le16 s.judge.letterErrors ++
          le16 s.judge.attemptsJudged ++ le16 s.judge.exactCount))) ∧
  (∀ (s u : State) (tag : Byte) (p : List Byte), Takes s ⟨0x29, tag, p⟩ u → s.cycle.results.length = 32 →
    let first := field p 0
    let count := field p 1
    let records := ((s.cycle.results.drop first).take count).map fun r =>
      [r.state.code, byteOf r.tries, byteOf r.best, byteOf r.last, byteOf r.hints, byteOf r.refusals, byteOf r.cues]
    exec (.getResults tag p) s = .next
      (if s.op ≠ .ready then u.replied 0xA9 tag .state []
       else if p.length ≠ 2 then u.replied 0xA9 tag .length []
       else if 31 < first ∨ count = 0 ∨ 32 < count ∨ 31 < first + count - 1 then u.replied 0xA9 tag .range []
       else
        u.replied 0xA9 tag .ok ([byteOf s.cycle.words.length, byteOf first, byteOf count] ++ records.flatten)) ∧
    (first + count ≤ 32 → records.flatten.length = 7 * count))

/-! ### The lesson (03) -/

/-- LOAD_WORDS (03 R39, R42, R43) appends its records in order, together or not at all, and returns the word count; its refusals
come in the order of the table of R42; a record laid out as 11 R174 gives reads back as its word. CLEAR_WORDS (03 R44): its
checks in order, and the emptied table, results, index and lesson state. -/
def Obligations.WordTableLoadsAndClears : Prop :=
  (∀ (s u : State) (tag : Byte) (recs : List (List Byte)),
    Takes s ⟨0x20, tag, byteOf recs.length :: recs.flatten⟩ u → s.op = .ready → s.cycle.lesson.current = false →
    recs ≠ [] → recs.length ≤ 8 → (∀ r ∈ recs, r.length = 26 ∧ wordRecordOk r = true) →
    exec (.loadWords tag (byteOf recs.length :: recs.flatten)) s = .next
      (if 32 < s.cycle.words.length + recs.length then u.replied 0xA0 tag .full []
       else
        State.replied
          { u with
            cycle := { s.cycle with words := s.cycle.words ++ recs.map wordRecordOf, lesson := .loaded } }
          0xA0 tag .ok [byteOf (s.cycle.words.length + recs.length)])) ∧
  (∀ (s u : State) (tag : Byte) (p : List Byte), Takes s ⟨0x20, tag, p⟩ u →
    let count := field p 0
    let sized := 1 ≤ count ∧ count ≤ 8 ∧ p.length = 1 + 26 * count
    let symbol := fun i j => field p (1 + 26 * i + 1 + j)
    let badRecord := fun i =>
      let n := field p (1 + 26 * i)
      n = 0 ∨ 20 < n ∨ (∃ j, j < n ∧ (symbol i j = 0 ∨ 28 < symbol i j)) ∨ (∀ j, j < n → 26 < symbol i j)
    (s.op ≠ .ready → exec (.loadWords tag p) s = .next (u.replied 0xA0 tag .state [])) ∧
    (s.op = .ready → ¬sized → exec (.loadWords tag p) s = .next (u.replied 0xA0 tag .length [])) ∧
    (s.op = .ready → sized → s.cycle.lesson.current = true →
      exec (.loadWords tag p) s = .next (u.replied 0xA0 tag .state [])) ∧
    (s.op = .ready → sized → s.cycle.lesson.current = false → (∃ i, i < count ∧ badRecord i) →
      exec (.loadWords tag p) s = .next (u.replied 0xA0 tag .range []))) ∧
  (∀ (w : WordRecord) (hints : Nat), 1 ≤ w.spelling.length → w.spelling.length ≤ 20 →
    (∀ x ∈ w.spelling, 1 ≤ x ∧ x ≤ 28) → (∃ x ∈ w.spelling, x ≤ 26) → w.wordClip < 65536 →
    w.sentenceClip < 65536 → hints < 256 → w.hintsAllowed = min 3 hints →
    let bytes := byteOf w.spelling.length ::
      (w.spelling.map byteOf ++ List.replicate (20 - w.spelling.length) 0) ++ le16 w.wordClip ++
        le16 w.sentenceClip ++ [byteOf hints]
    bytes.length = 26 ∧ wordRecordOk bytes = true ∧ wordRecordOf bytes = w) ∧
  (∀ (s u : State) (tag : Byte) (p : List Byte), Takes s ⟨0x21, tag, p⟩ u →
      exec (.clearWords tag p) s = .next
        (if s.op ≠ .ready then u.replied 0xA1 tag .state []
         else if p ≠ [] then u.replied 0xA1 tag .length []
         else if s.cycle.lesson = .running ∨ s.cycle.lesson = .paused then u.replied 0xA1 tag .state []
         else
          State.replied
            { u with
              cycle := { s.cycle with
                words := [], results := List.replicate 32 ⟨.unseen, 0, 0, 0, 0, 0, 0⟩, index := 0, lesson := .empty } }
            0xA1 tag .ok []))

/-- START and GOTO, accepted (03 R46, R51, R52): START clears the results and the last-judged record and makes the lesson
RUNNING; GOTO drops a judging in flight and makes an OPEN record SKIPPED; then the word at the index begins, with the sweep of
03 R49. The cut-in tests inside the step are made as log 19 says. -/
def Obligations.StartAndGotoBeginAWord : Prop :=
  (∀ (s u : State) (tag i : Byte), Takes s ⟨0x22, tag, [i]⟩ u → s.op = .ready →
    s.cycle.lesson = .loaded ∨ s.cycle.lesson = .finished → i.toNat < s.cycle.words.length →
    ∃ t, exec (.start tag [i]) s = .next (t.replied 0xA2 tag .ok []) ∧
      WordBegan
        { u with
          cycle := { s.cycle with lesson := .running, results := List.replicate 32 ⟨.unseen, 0, 0, 0, 0, 0, 0⟩ }
          judge := { s.judge with last := none } } t i.toNat) ∧
  (∀ (s u : State) (tag i : Byte), Takes s ⟨0x26, tag, [i]⟩ u → s.op = .ready →
    s.cycle.lesson = .running ∨ s.cycle.lesson = .paused → i.toNat < s.cycle.words.length →
    ∃ t, exec (.goto tag [i]) s = .next (t.replied 0xA6 tag .ok []) ∧
      WordBegan
        { u with
          cycle := { s.cycle with
            results := s.cycle.results.modify s.cycle.index fun r =>
              if r.state = .opened then { r with state := .skipped } else r }
          judge := { s.judge with working := none } } t i.toNat)

/-- The lesson commands are refused (03 R45): with STATE outside READY, with LENGTH for another size, with STATE in another
lesson state, and START and GOTO with RANGE for an index that names no word; a refused command changes nothing. -/
def Obligations.LessonCommandsAreRefused : Prop :=
  ∀ (s u : State) (tag : Byte) (p : List Byte),
    let refusal := fun (size : Nat) (inLesson : Prop) [Decidable inLesson] (hasIndex : Bool) =>
      if s.op ≠ .ready then some ResultCode.state
      else if p.length ≠ size then some .length
      else if ¬inLesson then some .state
      else if hasIndex = true ∧ s.cycle.words.length ≤ field p 0 then some .range
      else none
    let loaded := s.cycle.lesson = .loaded ∨ s.cycle.lesson = .finished
    let current := s.cycle.lesson = .running ∨ s.cycle.lesson = .paused
    (∀ r, Takes s ⟨0x22, tag, p⟩ u → refusal 1 loaded true = some r →
      exec (.start tag p) s = .next (u.replied 0xA2 tag r [])) ∧
    (∀ r, Takes s ⟨0x23, tag, p⟩ u → refusal 0 (s.cycle.lesson = .running) false = some r →
      exec (.pause tag p) s = .next (u.replied 0xA3 tag r [])) ∧
    (∀ r, Takes s ⟨0x24, tag, p⟩ u → refusal 0 (s.cycle.lesson = .paused) false = some r →
      exec (.resume tag p) s = .next (u.replied 0xA4 tag r [])) ∧
    (∀ r, Takes s ⟨0x25, tag, p⟩ u → refusal 0 current false = some r →
      exec (.stop tag p) s = .next (u.replied 0xA5 tag r [])) ∧
    (∀ r, Takes s ⟨0x26, tag, p⟩ u → refusal 1 current true = some r →
      exec (.goto tag p) s = .next (u.replied 0xA6 tag r []))

/-- PAUSE and RESUME, accepted (03 R47, R48; 06 R116): PAUSE changes the lesson state and fades a PLAYING lesson
utterance to be restored; RESUME changes it back and the cut-in test is made. STOP, accepted (03 R49, R50; 04 R73):
judging is dropped, an OPEN record becomes SKIPPED, the lesson sources are swept (a running lesson utterance fades out STOPPED),
the Attempt is cleared with the letter hold, the Cue Timer stops, the phase is NONE and the lesson LOADED, and the cut-in test is
made over what is left (log 19). -/
def Obligations.PauseResumeAndStop : Prop :=
  (∀ (s u : State) (tag : Byte), Takes s ⟨0x23, tag, []⟩ u → s.op = .ready → s.cycle.lesson = .running →
    exec (.pause tag []) s = .next (State.replied
      { u with
        cycle := { s.cycle with lesson := .paused }
        arbiter := { s.arbiter with
          running := s.arbiter.running.map fun r =>
            if r.utterance.source.isLesson = true ∧ r.state = .playing then
              { r with
                state := .fading .restore 0, utterance := { r.utterance with resume := r.cursor.index } }
            else r } }
      0xA3 tag .ok [])) ∧
  (∀ (s u : State) (tag : Byte), Takes s ⟨0x24, tag, []⟩ u → s.op = .ready → s.cycle.lesson = .paused →
    ∃ t, exec (.resume tag []) s = .next (t.replied 0xA4 tag .ok []) ∧ SameBut [.cycle, .arbiter] u t ∧
      t.cycle = { s.cycle with lesson := .running } ∧ CutInTested u t) ∧
  (∀ (s u : State) (tag : Byte), Takes s ⟨0x25, tag, []⟩ u → s.op = .ready →
      s.cycle.lesson = .running ∨ s.cycle.lesson = .paused →
      ∃ t, exec (.stop tag []) s = .next (t.replied 0xA5 tag .ok []) ∧
        t.cycle = { s.cycle with
          lesson := .loaded, phase := .none
          results := s.cycle.results.modify s.cycle.index fun r =>
            if r.state = .opened then { r with state := .skipped } else r } ∧
        t.judge = { s.judge with working := none } ∧
        t.intake = { s.intake with attempt := [], attemptFull := false, letterHold := false } ∧
        t.cue = s.cue.stopped ∧ SweptPlaces s t ∧ SweptRunning s t ∧
        SameBut [.cycle, .judge, .intake, .cue, .sources, .arbiter] u t)

/-- RELEASE WORD (03 R58, R59; 02 R35): in phase HELD the next word begins, or past the last word the lesson ends with its
LESSON_END; in every other phase it is answered NOT_HELD and changes nothing. The cut-in tests inside the step are made as log 19
says. -/
def Obligations.ReleaseWordAdvances : Prop :=
  ∀ (s u : State) (tag : Byte), Takes s ⟨0x27, tag, [2]⟩ u → s.op = .ready →
    (s.cycle.phase ≠ .held → exec (.releaseWord tag [2]) s = .next (u.replied 0xA7 tag .notHeld [])) ∧
    (s.cycle.phase = .held → s.cycle.index + 1 < s.cycle.words.length →
      ∃ t, exec (.releaseWord tag [2]) s = .next (t.replied 0xA7 tag .ok []) ∧ WordBegan u t (s.cycle.index + 1)) ∧
    (s.cycle.phase = .held → s.cycle.words.length ≤ s.cycle.index + 1 →
      ∃ t, exec (.releaseWord tag [2]) s = .next (t.replied 0xA7 tag .ok []) ∧ LessonEnded u t)

/-! ### The Judge (04) -/

/-- JUDGING_COMPLETE (04 R74 to R79; 03 R56): the last-judged record, the tallies of the window, the results record, the
feedback in VERDICT, the Attempt cleared for a retry, the phase FEEDBACK, WORD_JUDGED, and the Judge idle. It comes when the
sender names it (log 5). -/
def Obligations.JudgingCompletes : Prop :=
  ∀ (s : State) (r : JudgingRecord), s.resetLow = false → s.judge.working = some r →
    let v := judgementOf r s.judge.closeThreshold
    let retry := v.verdict ≠ .exact ∧ s.currentResult.tries < s.cycle.triesPerWord
    let counted := s.judge.windowStart ≤ r.wordIndex ∧ r.wordIndex < s.judge.windowStart + s.judge.windowLength
    ∃ t, exec .judgingComplete s = .next t ∧
      SameBut [.judge, .cycle, .intake, .sources, .arbiter, .link] s t ∧
      t.judge = { s.judge with
        working := none, last := some v
        attemptsJudged := if counted then min 65535 (s.judge.attemptsJudged + 1) else s.judge.attemptsJudged
        letterErrors := if counted then min 65535 (s.judge.letterErrors + v.letterErrors) else s.judge.letterErrors
        exactCount :=
          if counted ∧ v.verdict = .exact then min 65535 (s.judge.exactCount + 1) else s.judge.exactCount } ∧
      t.cycle = { s.cycle with
        phase := .feedback
        results := s.cycle.results.modify s.cycle.index fun x =>
          { x with
            last := v.score, best := max x.best v.score
            state :=
              if v.verdict = .exact then .exact else if x.tries < s.cycle.triesPerWord then .opened else .missed } } ∧
      t.intake =
        (if retry then { s.intake with attempt := [], attemptFull := false, letterHold := false } else s.intake) ∧
      t.sources.phrases = s.sources.phrases ∧ (∀ src, src ≠ .verdict → t.place src = s.place src) ∧
      t.place .verdict = { s.place .verdict with
        pending := (s.place .verdict).pending ++
          [if v.verdict = .exact then partUtterance .verdict .feedback [s.phraseItem 1, .word]
           else if ¬retry then
            partUtterance .verdict .spellback ([s.phraseItem 4, .word] ++ s.target.map Item.name ++ [.word])
           else if v.verdict = .close then partUtterance .verdict .feedback [s.phraseItem 2, .word]
           else partUtterance .verdict .feedback [s.phraseItem 3, .word]] } ∧
      t.link = s.link.raise (.wordJudged
        ⟨v.wordIndex, v.tryNumber, v.score, v.verdict, v.distance, v.letterErrors, v.extra, v.marks⟩ 1) ∧
      CutInTested s t

/-- The distance table (04 R67): the first row and column, and every other cell the least of its three values and, under
its condition, of the swap's. The distance is the last cell and at most twice the longer length. -/
def Obligations.DistanceTableRule : Prop :=
  ∀ (pairs : List (Nat × Nat)) (A T : List Nat),
    let D := fun i j => tableAt (fullTable pairs A T) i j
    let a := fun i => A.getD (i - 1) 0
    let b := fun j => T.getD (j - 1) 0
    (∀ j, j ≤ T.length → D 0 j = 2 * j) ∧ (∀ i, i ≤ A.length → D i 0 = 2 * i) ∧
    (∀ i j, 1 ≤ i → i ≤ A.length → 1 ≤ j → j ≤ T.length →
      D i j =
        let c := if a i = b j then 0 else if paired pairs (a i) (b j) = true then 1 else 2
        let least := min (D (i - 1) (j - 1) + c) (min (D (i - 1) j + 2) (D i (j - 1) + 2))
        if 2 ≤ i ∧ 2 ≤ j ∧ a i = b (j - 1) ∧ a (i - 1) = b j ∧ a i ≠ a (i - 1) then
          min least (D (i - 2) (j - 2) + 1)
        else least) ∧
    distance pairs A T = D A.length T.length ∧ distance pairs A T ≤ 2 * max A.length T.length

/-- The marks (04 R66, R68, R69, R71): one for each symbol of the target, PASSED exactly at the marks of the target under
SKIP and nowhere under STRICT; the others, in target order, and the extra count are what the traceback of R68 gives, whose steps
are tried at each cell in the order match, swap, near, wrong, missing, extra. The letter-error count is the number of marks NEAR,
SWAPPED, WRONG or MISSING plus the extra count; it is 0 exactly when the distance is, exactly when the reduced lists are equal. -/
def Obligations.MarksAndErrorsMatchTheDistance : Prop :=
  ∀ (r : JudgingRecord) (threshold : Nat),
    let v := judgementOf r threshold
    v.marks.length = r.target.length ∧
    (∀ i : Nat, v.marks[i]? = some .passed ↔
      r.rule = .skip ∧ ∃ x, r.target[i]? = some x ∧ isMark x = true) ∧
    (let A := reduce r.rule r.attempt
      let T := reduce r.rule r.target
      let D := fun i j => tableAt (fullTable r.pairs A T) i j
      let a := fun i => A.getD (i - 1) 0
      let b := fun j => T.getD (j - 1) 0
      let marked := fun (x : List Mark × Nat) (ms : List Mark) => (x.1 ++ ms, x.2)
      ∃ M : Nat → Nat → List Mark × Nat, M 0 0 = ([], 0) ∧
        (∀ i j, i ≤ A.length → j ≤ T.length → 1 ≤ i + j →
          M i j =
            if 1 ≤ i ∧ 1 ≤ j ∧ a i = b j ∧ D i j = D (i - 1) (j - 1) then marked (M (i - 1) (j - 1)) [.right]
            else if 2 ≤ i ∧ 2 ≤ j ∧ a i = b (j - 1) ∧ a (i - 1) = b j ∧ a i ≠ a (i - 1) ∧
                D i j = D (i - 2) (j - 2) + 1 then
              marked (M (i - 2) (j - 2)) [.swapped, .swapped]
            else if 1 ≤ i ∧ 1 ≤ j ∧ paired r.pairs (a i) (b j) = true ∧ D i j = D (i - 1) (j - 1) + 1 then
              marked (M (i - 1) (j - 1)) [.near]
            else if 1 ≤ i ∧ 1 ≤ j ∧ a i ≠ b j ∧ paired r.pairs (a i) (b j) = false ∧
                D i j = D (i - 1) (j - 1) + 2 then
              marked (M (i - 1) (j - 1)) [.wrong]
            else if 1 ≤ j ∧ D i j = D i (j - 1) + 2 then marked (M i (j - 1)) [.missing]
            else ((M (i - 1) j).1, (M (i - 1) j).2 + 1)) ∧
        v.marks.filter (fun k => decide (k ≠ .passed)) = (M A.length T.length).1 ∧
        v.extra = (M A.length T.length).2) ∧
    v.letterErrors =
      v.marks.countP (fun k => decide (k = .near ∨ k = .swapped ∨ k = .wrong ∨ k = .missing)) + v.extra ∧
    (v.letterErrors = 0 ↔ v.distance = 0) ∧
    (v.distance = 0 ↔ reduce r.rule r.attempt = reduce r.rule r.target) ∧
    v.letterErrors ≤ r.target.length + r.attempt.length

/-- Score and verdict (04 R70, R71): the rounded share of the credit, 100 exactly at distance 0 and at most 98 else, EXACT
exactly at distance 0, when the reduced lists are equal, and CLOSE or WRONG by the threshold. -/
def Obligations.ScoreAndVerdictRules : Prop :=
  (∀ d n : Nat, 1 ≤ n → n ≤ 20 →
    (2 * n ≤ d → scoreOf d n = 0) ∧
    (d < 2 * n →
      2 * n * scoreOf d n ≤ 100 * (2 * n - d) + n ∧ 100 * (2 * n - d) + n < 2 * n * (scoreOf d n + 1)) ∧
    (scoreOf d n = 100 ↔ d = 0) ∧ (1 ≤ d → scoreOf d n ≤ 98)) ∧
  (∀ (r : JudgingRecord) (threshold : Nat), 50 ≤ threshold → threshold ≤ 99 →
    1 ≤ (reduce r.rule r.target).length → (reduce r.rule r.target).length ≤ 20 →
    let v := judgementOf r threshold
    v.score = scoreOf v.distance (reduce r.rule r.target).length ∧
    (v.verdict = .exact ↔ v.distance = 0) ∧ (v.score = 100 ↔ v.verdict = .exact) ∧ v.score ≤ 100 ∧
    (v.distance = 0 ↔ reduce r.rule r.attempt = reduce r.rule r.target) ∧
    (v.verdict = .close ↔ 1 ≤ v.distance ∧ threshold ≤ v.score) ∧
    (v.verdict = .wrong ↔ 1 ≤ v.distance ∧ v.score < threshold))

/-! ### The arbiter and the engine (06, 08) -/

/-- Who may speak and who is chosen (06 R107, R108; 07 R127): the eligible sources, those of them that hold an utterance, and of
these participating ones the most urgent, the first in the tie order among equals; with none participating there is no choice.
The cut-in test (06 R111): a PLAYING utterance begins to fade with RESTORE exactly when some participating source has its cut-in
flag on and a strictly more urgent level; nothing else changes. -/
def Obligations.ArbiterChoosesAndCutsIn : Prop :=
  (∀ (s : State) (src : Source), s.eligible src = true ↔
    s.op = .ready ∧ (src.isLesson = true → s.cycle.lesson = .running) ∧
      (src = .cue ∨
        ¬(s.cue.running = true ∧ s.cue.boundary ≠ 0 ∧ s.cue.remaining ≤ s.cue.boundary ∧
          s.level .cue ≤ s.level src))) ∧
  (∀ (s : State) (src : Source), s.participates src = true ↔
    s.eligible src = true ∧ ((s.place src).backup ≠ none ∨ (s.place src).pending ≠ [])) ∧
  (∀ (s : State) (src : Source), s.choice = some src ↔
    s.participates src = true ∧
      ∀ other, s.participates other = true →
        s.level src < s.level other ∨
          (s.level src = s.level other ∧ tieOrder.idxOf src ≤ tieOrder.idxOf other)) ∧
  (∀ s : State, s.choice = none ↔ ∀ src, s.participates src = false) ∧
  (∀ s : State,
      (∀ r, s.arbiter.running = some r → r.state = .playing →
        (∃ c, s.participates c = true ∧ (s.arbiter.settings.get c).cutIn = true ∧
          s.level c < s.level r.utterance.source) →
        s.cutInTest = { s with
          arbiter := { s.arbiter with
            running := some { r with
              state := .fading .restore 0, utterance := { r.utterance with resume := r.cursor.index } } } }) ∧
      ((∀ r, s.arbiter.running = some r → r.state = .playing →
        ¬∃ c, s.participates c = true ∧ (s.arbiter.settings.get c).cutIn = true ∧
          s.level c < s.level r.utterance.source) →
        s.cutInTest = s))

/-- UTTERANCE_START (06 R108; 03 R53; 05 R92; 08 R142, R145): the chosen source hands over its backup, else the head of its
pending place; it plays from its resume index with AMP ACTIVE; a first WORD_PROMPT makes the phase ANSWERING and loads the Cue
Timer; a start from the QUEUE list that leaves the low mark raises QUEUE_LOW. First the form in which the first item reached
takes time: a GAP, or a good clip longer than its trim, with no automatic gap before it (08 R141). Then every form: after the
reports (log 12) the engine reaches the items from the resume index on, passing over skipped ones as StageEndMovesOn says, and
with none left the utterance ends DONE at its start (06 R117). The read command left on SPI is the model's (log 9). Last what an
item resolves to and how its trim counts (08 R137 to R139). -/
def Obligations.UtteranceStarts : Prop :=
  (∀ (s : State) (src : Source) (u : Utterance) (tail : List Utterance) (fromList : Bool) (item : Item)
    (c : Cursor) (spi : List Byte),
    s.resetLow = false → s.arbiter.running = none → s.choice = some src → WordCycleLaw s → u.source = src →
    (((s.place src).backup = some u ∧ tail = (s.place src).pending ∧ fromList = false) ∨
      ((s.place src).backup = none ∧ (s.place src).pending = u :: tail ∧ fromList = true)) →
    u.items[u.resume]? = some item →
    ((∃ n, item = .gap n ∧ c = ⟨u.resume, .gapItem, n * 80, 0, 0, none⟩ ∧ spi = s.bank.spi) ∨
      (∃ k start len, s.resolve item = .clip (k + 1) ∧ s.bank.lookup (k + 1) = some (start, len) ∧
        s.trimSamples item < len ∧
        c = ⟨u.resume, .clip, len - s.trimSamples item, start + s.trimSamples item, len - s.trimSamples item, none⟩ ∧
        spi = readCommand (start + s.trimSamples item))) →
    let first := u.kind = .wordPrompt ∧ s.cycle.phase = .prompting
    ∃ t, exec .utteranceStart s = .next t ∧
      SameBut [.arbiter, .voice, .sources, .cycle, .cue, .bank, .link] s t ∧
      t.arbiter = { s.arbiter with running := some ⟨u, .playing, c⟩ } ∧
      t.voice = { s.voice with amp := .active } ∧ t.sources.phrases = s.sources.phrases ∧
      t.place src = ⟨tail, none⟩ ∧ (∀ other, other ≠ src → t.place other = s.place other) ∧
      t.cycle = (if first then { s.cycle with phase := .answering } else s.cycle) ∧
      t.cue = (if first then s.cue.loaded 0 else s.cue) ∧ t.bank = { s.bank with spi := spi } ∧
      t.link =
        (if src = .queue ∧ fromList = true ∧ tail.length = s.arbiter.lowMark then
          s.link.raise (.queueLow tail.length)
        else s.link)) ∧
  (∀ (s : State) (src : Source) (u : Utterance) (tail : List Utterance) (fromList : Bool),
    s.resetLow = false → s.arbiter.running = none → s.choice = some src → WordCycleLaw s → u.source = src →
    (((s.place src).backup = some u ∧ tail = (s.place src).pending ∧ fromList = false) ∨
      ((s.place src).backup = none ∧ (s.place src).pending = u :: tail ∧ fromList = true)) →
    let first := u.kind = .wordPrompt ∧ s.cycle.phase = .prompting
    let v : State := { s with
      sources := { s.sources with places := s.sources.places.set src ⟨tail, none⟩ }
      voice := { s.voice with amp := .active }
      cycle := if first then { s.cycle with phase := .answering } else s.cycle
      cue := if first then s.cue.loaded 0 else s.cue
      link :=
        if src = .queue ∧ fromList = true ∧ tail.length = s.arbiter.lowMark then s.link.raise (.queueLow tail.length)
        else s.link }
    exec .utteranceStart s = .next
      (match v.reach u.resume none (u.items.drop u.resume) with
      | (w, some c) => { w with arbiter := { s.arbiter with running := some ⟨u, .playing, c⟩ } }
      | (w, none) => w.endRunning u .done)) ∧
  (∀ s : State,
    (∀ n, s.resolve (.clip n) = .clip n ∧ s.trimSamples (.clip n) = 0) ∧
    (∀ n, s.resolve (.gap n) = .silence (n * 80)) ∧
    (∀ (sym : Nat) (e : MapEntry), 1 ≤ sym → s.voice.letterMap[sym - 1]? = some e →
      s.resolve (.letter sym) = .clip (match s.voice.echoStyle, e.mode with
        | .names, _ => e.nameClip
        | .sounds, _ => e.soundClip
        | .perLetter, .name => e.nameClip
        | .perLetter, .sound => e.soundClip
        | .perLetter, .fixed => e.fixedClip
        | .perLetter, .silent => 0) ∧
      s.resolve (.name sym) = .clip e.nameClip ∧
      s.trimSamples (.letter sym) = e.trim * 40 ∧ s.trimSamples (.name sym) = e.trim * 40) ∧
    (∀ w, s.cycle.lesson = .running ∨ s.cycle.lesson = .paused → s.cycle.words[s.cycle.index]? = some w →
      s.resolve .word = .clip w.wordClip ∧ s.resolve .sentence = .clip w.sentenceClip) ∧
    (s.cycle.lesson ≠ .running → s.cycle.lesson ≠ .paused →
      s.resolve .word = .clip 0 ∧ s.resolve .sentence = .clip 0) ∧
    s.trimSamples .word = 0 ∧ s.trimSamples .sentence = 0)

/-- STAGE_END (08 R138 to R142; 06 R117): after an automatic gap its clip sounds; else the next item is reached, a GAP with its
silence, or a good clip with the automatic gap that the previous item asks for; past the last item the utterance ends DONE. Then
every form: the engine reaches the items left, and each one as it comes. A GAP takes its silence. Clip 0, which mode SILENT and
a WORD or SENTENCE with no current word resolve to, is skipped with no trace. A bad clip k raises FAULT with count 1 and is
skipped. A good clip takes its gap, or its samples past the trim; one that the trim covers whole takes no samples but is the
previous item for what follows. A skipped item leaves the previous item as it was. With every item left skipped none is reached,
and the utterance ends DONE, one FAULT raised for each bad clip in order. The read commands on SPI are the model's (log 9). The
lookup of a clip (08 R133, R135): a clip is good when its entry exists, holds samples, lies within the bank and starts past the
directory. -/
def Obligations.StageEndMovesOn : Prop :=
  (∀ (s : State) (r : Running), s.resetLow = false → s.arbiter.running = some r → r.state = .playing →
      r.cursor.samplesLeft = 0 →
      (r.cursor.stage = .automaticGap → r.cursor.clipLength ≠ 0 →
        exec .stageEnd s = .next { s with
          bank := { s.bank with spi := readCommand r.cursor.bankPosition }
          arbiter := { s.arbiter with
            running := some { r with cursor := { r.cursor with stage := .clip, samplesLeft := r.cursor.clipLength } } } }) ∧
      (r.cursor.stage ≠ .automaticGap ∨ r.cursor.clipLength = 0 →
        let i := r.cursor.index + 1
        let previous := (r.utterance.items[r.cursor.index]?).map Item.cls
        (r.utterance.items.length ≤ i → exec .stageEnd s = .next (s.endRunning r.utterance .done)) ∧
        (∀ n, r.utterance.items[i]? = some (.gap n) →
          exec .stageEnd s = .next { s with
            arbiter := { s.arbiter with running := some { r with cursor := ⟨i, .gapItem, n * 80, 0, 0, previous⟩ } } }) ∧
        (∀ (item : Item) (k start len : Nat), r.utterance.items[i]? = some item → s.resolve item = .clip (k + 1) →
          s.bank.lookup (k + 1) = some (start, len) → s.trimSamples item < len →
          let left := len - s.trimSamples item
          let gap :=
            if previous = none ∨ previous = some .gapItem then 0
            else if item.cls = .letterItem then
              (if previous = some .letterItem then s.voice.letterGap * 80 else s.voice.leadGap * 80)
            else s.voice.itemGap * 80
          exec .stageEnd s = .next { s with
            bank := { s.bank with
              spi := readCommand (if gap = 0 then start + s.trimSamples item else 16 + 5 * k) }
            arbiter := { s.arbiter with
              running := some { r with
                cursor :=
                  if gap = 0 then ⟨i, .clip, left, start + s.trimSamples item, left, previous⟩
                  else ⟨i, .automaticGap, gap, start + s.trimSamples item, left, previous⟩ } } }))) ∧
  (∀ (s : State) (r : Running), s.resetLow = false → s.arbiter.running = some r → r.state = .playing →
      r.cursor.samplesLeft = 0 → r.cursor.stage ≠ .automaticGap ∨ r.cursor.clipLength = 0 →
      exec .stageEnd s = .next
        (match s.reach (r.cursor.index + 1) ((r.utterance.items[r.cursor.index]?).map Item.cls)
            (r.utterance.items.drop (r.cursor.index + 1)) with
        | (w, some c) => { w with arbiter := { s.arbiter with running := some { r with cursor := c } } }
        | (w, none) => w.endRunning r.utterance .done)) ∧
  (∀ (s : State) (i : Nat) (previous : Option ItemClass) (item : Item) (rest : List Item),
      let reached := s.reach i previous (item :: rest)
      let gap :=
        if previous = none ∨ previous = some .gapItem then 0
        else if item.cls = .letterItem then
          (if previous = some .letterItem then s.voice.letterGap * 80 else s.voice.leadGap * 80)
        else s.voice.itemGap * 80
      (∀ n, item = .gap n → reached = (s, some ⟨i, .gapItem, n * 80, 0, 0, previous⟩)) ∧
      (s.resolve item = .clip 0 → reached = s.reach (i + 1) previous rest) ∧
      (∀ k, s.resolve item = .clip (k + 1) → s.bank.lookup (k + 1) = none →
        reached = State.reach
          { s with
            bank := { s.bank with
              spi := if k + 1 ≤ s.bank.clipCount then readCommand (16 + 5 * k) else s.bank.spi }
            link := s.link.raise (.fault (k + 1) 1) } (i + 1) previous rest) ∧
      (∀ k start len, s.resolve item = .clip (k + 1) → s.bank.lookup (k + 1) = some (start, len) →
        let trim := s.trimSamples item
        let looked : State := { s with bank := { s.bank with spi := readCommand (16 + 5 * k) } }
        (gap ≠ 0 → reached = (looked, some ⟨i, .automaticGap, gap, start + trim, len - trim, previous⟩)) ∧
        (gap = 0 → trim < len →
          reached = ({ s with bank := { s.bank with spi := readCommand (start + trim) } },
            some ⟨i, .clip, len - trim, start + trim, len - trim, previous⟩)) ∧
        (gap = 0 → len ≤ trim → reached = looked.reach (i + 1) (some item.cls) rest))) ∧
  (∀ (s : State) (i : Nat) (previous : Option ItemClass) (items : List Item),
      (∀ item ∈ items, s.resolve item = .clip 0 ∨
        ∃ k, s.resolve item = .clip (k + 1) ∧ s.bank.lookup (k + 1) = none) →
      ∃ spi, s.reach i previous items =
        ({ s with
          bank := { s.bank with spi := spi }
          link := items.foldl (fun l item =>
            match s.resolve item with
            | .clip (k + 1) => l.raise (.fault (k + 1) 1)
            | .clip 0 => l
            | .silence _ => l) s.link }, none)) ∧
  (∀ (b : Bank) (k : Nat),
      let byte := fun a => (flashRead b.flash a).toNat
      let e := 16 + 5 * k
      let start := byte e + 256 * byte (e + 1) + 65536 * byte (e + 2)
      let len := byte (e + 3) + 256 * byte (e + 4)
      b.lookup (k + 1) =
        if b.clipCount < k + 1 ∨ len = 0 ∨ b.size < start + len ∨ start < 16 + 5 * b.clipCount then none
        else some (start, len))

/-- The end of a running utterance (06 R117; 03 R57, R58; 05 R103): it leaves the running place and AMP begins its hold; a
HOST utterance with notify yes raises its SAID entry; a feedback or spell-back that ended DONE or CUT in phase FEEDBACK moves
the word by its record; every other end is not acted on. The output code is 512 from the step that empties the place (log 23). -/
def Obligations.EndsAreReported : Prop :=
  ∀ (s : State) (u : Utterance) (e : EndKind),
    let acts := s.cycle.phase = .feedback ∧ (u.kind = .feedback ∨ u.kind = .spellback) ∧ (e = .done ∨ e = .cut)
    let settled := s.currentResult.state = .exact ∨ s.currentResult.state = .missed
    (u.source.isLesson = false →
      s.endRunning u e =
        if u.notify = true then { s.vacated with link := s.link.raise (.said false [⟨u.tag, e⟩]) } else s.vacated) ∧
    (u.source.isLesson = true → ¬acts → s.endRunning u e = s.vacated) ∧
    (u.source.isLesson = true → acts → s.currentResult.state = .opened →
      s.endRunning u e = { s.vacated with cycle := { s.cycle with phase := .answering }, cue := s.cue.loaded 0 }) ∧
    (u.source.isLesson = true → acts → settled → s.intake.settings.endHold = true →
      s.endRunning u e = { s.vacated with cycle := { s.cycle with phase := .held } }) ∧
    (u.source.isLesson = true → acts → settled → s.intake.settings.endHold = false →
      (s.cycle.index + 1 < s.cycle.words.length →
        WordBegan s.vacated (s.endRunning u e) (s.cycle.index + 1)) ∧
      (s.cycle.words.length ≤ s.cycle.index + 1 → LessonEnded s.vacated (s.endRunning u e)))

/-- FADE_END (06 R112, R114, R115): after the 32 samples a RESTORE puts the utterance into its own source's backup slot and
reports nothing, and a discard ends it CUT or STOPPED; before them nothing happens (log 3). -/
def Obligations.FadeEndRestoresOrEnds : Prop :=
  ∀ (s : State) (r : Running) (k : FadeKind) (n : Nat), s.resetLow = false → s.arbiter.running = some r →
    r.state = .fading k n →
    (n < 32 → exec .fadeEnd s = .next s) ∧
    (32 ≤ n → k = .restore →
      ∃ t, exec .fadeEnd s = .next t ∧ t.arbiter = s.vacated.arbiter ∧ t.voice = s.vacated.voice ∧
        t.place r.utterance.source = { s.place r.utterance.source with backup := some r.utterance } ∧
        (∀ src, src ≠ r.utterance.source → t.place src = s.place src) ∧
        t.sources.phrases = s.sources.phrases ∧ SameBut [.arbiter, .voice, .sources] s t) ∧
    (32 ≤ n → k = .discardCut → exec .fadeEnd s = .next (s.endRunning r.utterance .cut)) ∧
    (32 ≤ n → k = .discardStopped → exec .fadeEnd s = .next (s.endRunning r.utterance .stopped))

/-- SAMPLE_PERIOD (08 R143, R144) and AMP_HOLD_END (08 R145): the output code of silence, of a playing sample while its stage
lasts, and of each of the 32 fade samples, with the cursor's move (06 R106); and AMP inactive at the end of its hold, which comes
when the sender names it, whatever time has gathered: the model's choice (log 5). -/
def Obligations.SamplesAndAmpHold : Prop :=
  (∀ s : State, s.resetLow = false → s.arbiter.running = none →
    exec .samplePeriod s = .next { s with voice := { s.voice with output := 512 } }) ∧
  (∀ (s : State) (r : Running), s.resetLow = false → s.arbiter.running = some r →
    let g : Int := s.voice.gain
    let clipSample : Int :=
      if r.cursor.stage = .clip ∧ r.cursor.samplesLeft ≠ 0 then (flashRead s.bank.flash r.cursor.bankPosition).toInt
      else 0
    let held := fun v : Int => (max (-512) (min 511 v) + 512).toNat
    let moved : Cursor := { r.cursor with
      samplesLeft := r.cursor.samplesLeft - 1
      bankPosition :=
        if r.cursor.stage = .clip ∧ r.cursor.samplesLeft ≠ 0 then r.cursor.bankPosition + 1
        else r.cursor.bankPosition }
    (r.state = .playing → r.cursor.samplesLeft ≠ 0 →
      exec .samplePeriod s = .next { s with
        voice := { s.voice with output := held ((clipSample * g + 16).fdiv 32) }
        arbiter := { s.arbiter with running := some { r with cursor := moved } } }) ∧
    (∀ (k : FadeKind) (n : Nat), r.state = .fading k n → n < 32 →
      exec .samplePeriod s = .next { s with
        voice := { s.voice with output := held ((clipSample * g * (32 - ((n : Int) + 1)) + 512).fdiv 1024) }
        arbiter := { s.arbiter with
          running := some { r with state := .fading k (n + 1), cursor := moved } } })) ∧
  (∀ (s : State) (n : Nat), s.resetLow = false → s.voice.amp = .holding n →
    exec .ampHoldEnd s = .next { s with voice := { s.voice with amp := .inactive } })

/-- SAY and SAY_NOW (05 R98, R99; 11 R173): refused outside READY with STATE, with LENGTH where the payload is not its header
and the items it counts, with RANGE for a count outside 1 to 24, a notify code above 1, or an item of an undefined kind or with
an operand out of its range. Else the items read back as they were laid out, a WORD or SENTENCE whatever its two operand bytes
hold, the HOST utterance takes the frame's tag and joins
the QUEUE list or fills the NOW slot, SAY returns the QUEUE level, a full list answers FULL and a filled slot OCCUPIED. -/
def Obligations.HostSpeechCommands : Prop :=
  (∀ (s u : State) (tag : Byte) (p : List Byte),
    let kind := fun i => field p (2 + 3 * i)
    let operand := fun i => field16 p (3 + 3 * i)
    let badItem := fun i =>
      kind i = 0 ∨ 6 < kind i ∨ ((kind i = 2 ∨ kind i = 3) ∧ (operand i = 0 ∨ 28 < operand i)) ∨
        (kind i = 6 ∧ (operand i = 0 ∨ 255 < operand i))
    let refused := fun (reply : Byte) (o : Host.Outcome State Fault Refusal) =>
      (s.op ≠ .ready → o = .next (u.replied reply tag .state [])) ∧
      (s.op = .ready → p.length < 2 ∨ p.length ≠ 2 + 3 * field p 1 → o = .next (u.replied reply tag .length [])) ∧
      (s.op = .ready → p.length = 2 + 3 * field p 1 →
        field p 1 = 0 ∨ 24 < field p 1 ∨ 1 < field p 0 ∨ (∃ i, i < field p 1 ∧ badItem i) →
        o = .next (u.replied reply tag .range []))
    (Takes s ⟨0x30, tag, p⟩ u → refused 0xB0 (exec (.say tag p) s)) ∧
    (Takes s ⟨0x31, tag, p⟩ u → refused 0xB1 (exec (.sayNow tag p) s))) ∧
  ∀ (s u : State) (tag : Byte) (notify : Bool) (ws : List (Item × List Byte)), s.op = .ready → 1 ≤ ws.length →
    ws.length ≤ 24 →
    (∀ w ∈ ws, w.1.inRange = true ∧
      (w.2 = itemBytes w.1 ∨ (w.1 = .word ∧ ∃ x y, w.2 = [4, x, y]) ∨ (w.1 = .sentence ∧ ∃ x y, w.2 = [5, x, y]))) →
    let items := ws.map Prod.fst
    let payload := flagByte notify :: byteOf ws.length :: ws.flatMap Prod.snd
    (Takes s ⟨0x30, tag, payload⟩ u →
      (16 ≤ (s.place .queue).pending.length → exec (.say tag payload) s = .next (u.replied 0xB0 tag .full [])) ∧
      ((s.place .queue).pending.length < 16 →
        ∃ t, exec (.say tag payload) s =
            .next (t.replied 0xB0 tag .ok [byteOf ((s.place .queue).pending.length + 1)]) ∧
          SameBut [.sources, .arbiter] u t ∧ t.sources.phrases = s.sources.phrases ∧
          t.place .queue = { s.place .queue with
            pending := (s.place .queue).pending ++ [⟨.queue, .host, tag, notify, items, 0⟩] } ∧
          (∀ src, src ≠ .queue → t.place src = s.place src) ∧ CutInTested u t)) ∧
    (Takes s ⟨0x31, tag, payload⟩ u →
      ((s.place .now).pending ≠ [] → exec (.sayNow tag payload) s = .next (u.replied 0xB1 tag .occupied [])) ∧
      ((s.place .now).pending = [] →
        ∃ t, exec (.sayNow tag payload) s = .next (t.replied 0xB1 tag .ok []) ∧
          SameBut [.sources, .arbiter] u t ∧ t.sources.phrases = s.sources.phrases ∧
          t.place .now = { s.place .now with pending := [⟨.now, .host, tag, notify, items, 0⟩] } ∧
          (∀ src, src ≠ .now → t.place src = s.place src) ∧ CutInTested u t))

/-- CUT and FLUSH (05 R101 to R103; 06 R112, R115): both are refused outside READY with STATE and with a payload with LENGTH.
CUT fades the running utterance out and names it in its reply; FLUSH empties the host sources, raises the SAID entries in order
before its reply, and returns the number removed. -/
def Obligations.CutAndFlush : Prop :=
  (∀ (s u : State) (tag : Byte) (p : List Byte), s.op ≠ .ready ∨ p ≠ [] →
    let refusal := if s.op ≠ .ready then ResultCode.state else .length
    (Takes s ⟨0x32, tag, p⟩ u → exec (.cut tag p) s = .next (u.replied 0xB2 tag refusal [])) ∧
    (Takes s ⟨0x33, tag, p⟩ u → exec (.flush tag p) s = .next (u.replied 0xB3 tag refusal []))) ∧
  (∀ (s u : State) (tag : Byte), Takes s ⟨0x32, tag, []⟩ u → s.op = .ready →
    (s.arbiter.running = none → exec (.cut tag []) s = .next (u.replied 0xB2 tag .ok [0, 0, 0])) ∧
    (∀ r, s.arbiter.running = some r →
      exec (.cut tag []) s = .next (State.replied
        { u with
          arbiter := { s.arbiter with
            running := some { r with
              state := match r.state with
                | .playing => .fading .discardCut 0
                | .fading .restore n => .fading .discardCut n
                | .fading .discardCut n => .fading .discardCut n
                | .fading .discardStopped n => .fading .discardStopped n } } }
        0xB2 tag .ok [1, r.utterance.source.code, r.utterance.tag]))) ∧
  (∀ (s u : State) (tag : Byte), Takes s ⟨0x33, tag, []⟩ u → s.op = .ready →
    let gone := (s.place .now).backup.toList ++ (s.place .now).pending ++ (s.place .queue).backup.toList ++
      (s.place .queue).pending
    ∃ t, exec (.flush tag []) s = .next (t.replied 0xB3 tag .ok [byteOf gone.length]) ∧
      SameBut [.sources, .link] u t ∧ t.sources.phrases = s.sources.phrases ∧
      t.place .now = ⟨[], none⟩ ∧ t.place .queue = ⟨[], none⟩ ∧
      (∀ src, src.isLesson = true → t.place src = s.place src) ∧
      t.link =
        (gone.filter fun x => x.notify).foldl (fun l x => l.raise (.said false [⟨x.tag, .flushed⟩])) u.link)

/-! ### The Cue Timer (07) -/

/-- The timer's state (07 R123, R124): a running timer is COUNTING with the lesson RUNNING, the phase ANSWERING and the speaker
idle, else FROZEN. CUE_DECREMENT (07 R124) and CUE_EXPIRY (07 R128, R129) of a COUNTING timer: the decrement that brings the count
to 0 is the expiry and no step of its own (log 7). Below the cue limit a cue is placed and counted when the CUE slot is empty, and
the timer is loaded; at the limit CHILD_IDLE is raised and the timer stops. Both rows act when the sender names them, whatever
part of the unit has gathered: the model's choice (log 5). -/
def Obligations.CueTimerCountsAndExpires : Prop :=
  (∀ s : State,
    let free := s.cycle.lesson = .running ∧ s.cycle.phase = .answering ∧ s.arbiter.running = none
    (s.timerState = .stopped ↔ s.cue.running = false) ∧ (s.timerState = .counting ↔ s.cue.running = true ∧ free) ∧
    (s.timerState = .frozen ↔ s.cue.running = true ∧ ¬free)) ∧
  ∀ s : State, s.resetLow = false → s.timerState = .counting →
    (2 ≤ s.cue.remaining →
      exec .cueDecrement s = .next { s with cue := { s.cue with remaining := s.cue.remaining - 1, part := 0 } }) ∧
    (s.cue.remaining = 1 → exec .cueDecrement s = .next s) ∧
    (s.cue.remaining = 1 → s.cue.limit ≤ s.cue.stretch →
      exec .cueExpiry s = .next { s with cue := s.cue.stopped, link := s.link.raise (.childIdle s.cycle.index) }) ∧
    (s.cue.remaining = 1 → s.cue.stretch < s.cue.limit → (s.place .cue).pending ≠ [] →
      exec .cueExpiry s = .next { s with cue := s.cue.loaded s.cue.stretch }) ∧
    (s.cue.remaining = 1 → s.cue.stretch < s.cue.limit → (s.place .cue).pending = [] →
      ∃ t, exec .cueExpiry s = .next t ∧ SameBut [.cue, .cycle, .sources] s t ∧
        t.cue = s.cue.loaded (s.cue.stretch + 1) ∧
        t.cycle = { s.cycle with
          results := s.cycle.results.modify s.cycle.index fun r => { r with cues := min 7 (r.cues + 1) } } ∧
        t.sources.phrases = s.sources.phrases ∧ (∀ src, src ≠ .cue → t.place src = s.place src) ∧
        t.place .cue = { s.place .cue with
          pending := [partUtterance .cue .cuePrompt [s.phraseItem 5, .word]] })

/-! ### The Link Port (09) -/

/-- The receive assembler (09 R152 to R154, R157): the table of a byte in each state, for RECEIVED_BYTE and for FRAME_RECEIVED
where the byte completes or rejects a frame (that the two rows share the table is log 14); a good frame is appended to the inbox,
or discarded with OVERFLOW where a reply place is free; a timeout inside a frame, which comes when the sender names it (log 5);
and a taken frame whose kind code names no command is answered UNKNOWN under the kind code 0xFF and changes nothing (09 R156). -/
def Obligations.AssemblerTakesEachByte : Prop :=
  (∀ (s : State) (b : Byte) (c : Instr), s.resetLow = false →
    (c = .receivedByte b ∨
      (c = .frameReceived b ∧
        (s.link.assembler.state = .check ∨
          (s.link.assembler.state = .length ∧ ¬(2 ≤ b.toNat ∧ b.toNat ≤ 250))))) →
    let a := s.link.assembler
    let idle : Assembler := ⟨.hunt, [], 0, 0, 0⟩
    (a.state = .hunt →
      exec c s = .next (if b = 0xC3 then { s with link := { s.link with assembler := ⟨.length, [], 0, 0, 0⟩ } } else s)) ∧
    (a.state = .length →
      exec c s = .next
        (if 2 ≤ b.toNat ∧ b.toNat ≤ 250 then
          { s with link := { s.link with assembler := ⟨.body, [], b, b.toNat, 0⟩ } }
        else { s with link := Link.raise { s.link with assembler := idle } (.linkError .len 1) })) ∧
    (a.state = .body →
      exec c s = .next { s with
        link := { s.link with
          assembler :=
            ⟨if a.expected ≤ 1 then .check else .body, a.body ++ [b], a.sum + b, a.expected - 1, 0⟩ } }) ∧
    (a.state = .check → a.sum + b ≠ 0 →
      exec c s = .next { s with link := Link.raise { s.link with assembler := idle } (.linkError .check 1) }) ∧
    (∀ (k tag : Byte) (p : List Byte), a.state = .check → a.sum + b = 0 → a.body = k :: tag :: p →
      exec c s = .next
        (if s.link.inbox.length < 2 then
          { s with link := { s.link with assembler := idle, inbox := s.link.inbox ++ [⟨k, tag, p⟩] } }
        else if s.link.replyPlacesUsed < 4 then
          State.replied { s with link := { s.link with assembler := idle } }
            (if knownKind k = true then k + 0x80 else 0xFF) tag .overflow []
        else { s with link := { s.link with assembler := idle } }))) ∧
  (∀ s : State, s.resetLow = false → s.link.assembler.state ≠ .hunt →
    exec .interByteTimeout s = .next { s with
      link := Link.raise { s.link with assembler := ⟨.hunt, [], 0, 0, 0⟩ } (.linkError .timeout 1) }) ∧
  (∀ (s u : State) (k tag : Byte) (p : List Byte), k ∉ Config.commandKinds → Takes s ⟨k, tag, p⟩ u →
    exec (.unknownCommand k tag p) s = .next (u.replied 0xFF tag .unknown []))

/-- A frame received whole (09 R150 to R154): the bytes of a frame with any body of 2 to 250 bytes, sent from HUNT, put the
frame of that body at the tail of an inbox with room and raise nothing. Which row carries which byte is log 14. -/
def Obligations.WholeFrameReachesTheInbox : Prop :=
  ∀ (s : State) (k tag : Byte) (p : List Byte), s.resetLow = false → s.link.assembler.state = .hunt →
    s.link.inbox.length < 2 → p.length ≤ 248 →
    core.run (p.length + 5) { s with pending := receiveSteps (k :: tag :: p) } = .next { s with
      pending := []
      link := { s.link with assembler := ⟨.hunt, [], 0, 0, 0⟩, inbox := s.link.inbox ++ [⟨k, tag, p⟩] } }

/-- The transmitter (09 R159, R160; 01 R13): the oldest waiting frame goes into transmission; at its completion its place is
freed and a held notice of its kind enters at the tail; and at the completion of a RING_OVERRUN the lost-event count is first
reduced by the count carried, what is left being told by the held notice or a new one. -/
def Obligations.TransmitterSendsInOrder : Prop :=
  (∀ (s : State) (f : OutFrame) (rest : List OutFrame), s.resetLow = false → s.link.transmitting = none →
    s.link.outbox = f :: rest →
    exec .transmitBegin s = .next { s with link := { s.link with transmitting := some f, outbox := rest } }) ∧
  (∀ (s : State) (f : OutFrame), s.resetLow = false → s.link.transmitting = some f →
    f.hasKind .ringOverrun = false →
    (s.link.held = none →
      exec .transmitComplete s = .next { s with link := { s.link with transmitting := none } }) ∧
    (∀ h, s.link.held = some h → f.hasKind h.kind = true →
      exec .transmitComplete s = .next { s with
        link := { s.link with transmitting := none, held := none, outbox := s.link.outbox ++ [.notice h] } })) ∧
  (∀ (s : State) (carried : Nat), s.resetLow = false → s.link.transmitting = some (.notice (.ringOverrun carried)) →
    s.link.heldBehindOwnKind = true →
    let lost := s.ring.lost - carried
    exec .transmitComplete s = .next { s with
      ring := { s.ring with lost := lost }
      link := { s.link with
        transmitting := none, held := none
        outbox := s.link.outbox ++ if lost = 0 then [] else [.notice (.ringOverrun lost)] } })

/-- A raise (09 R160): held behind a transmission of its kind, merged into the waiting frame of its kind in its place, or
entered at the tail. The merge of KEY_PASS and SAID lists up to eight entries, that of WORD_JUDGED, FAULT and LINK_ERROR
counts, and that of every other kind replaces. ATTN (09 R161) is low exactly while RESETn is high and a notice is waiting, in
transmission or held; a reply does not drive it. -/
def Obligations.RaisesEnterMergeOrAreHeld : Prop :=
  (∀ s : State, s.attnLow = true ↔
    s.resetLow = false ∧
      ((∃ n, OutFrame.notice n ∈ s.link.outbox) ∨ (∃ n, s.link.transmitting = some (.notice n)) ∨
        s.link.held ≠ none)) ∧
  (∀ (l : Link) (n : Notice), (l.transmitting.all fun f => !f.hasKind n.kind) = true →
    ((∀ f ∈ l.outbox, f.hasKind n.kind = false) → l.raise n = { l with outbox := l.outbox ++ [.notice n] }) ∧
    (∀ before old after, l.outbox = before ++ .notice old :: after → old.kind = n.kind →
      (∀ f ∈ before ++ after, f.hasKind n.kind = false) →
      l.raise n = { l with outbox := before ++ .notice (old.merge n) :: after })) ∧
  (∀ (l : Link) (n sent : Notice), l.transmitting = some (.notice sent) → sent.kind = n.kind →
    l.raise n = { l with
      held := match l.held with
        | none => some n
        | some h => some (h.merge n) }) ∧
  (∀ (m m' : Bool) (es : List KeyPassEntry) (e : KeyPassEntry), (Notice.keyPass m es).merge (.keyPass m' [e]) =
    if es.length < 8 then .keyPass m (es ++ [e]) else .keyPass true es) ∧
  (∀ (m m' : Bool) (es : List SaidEntry) (e : SaidEntry), (Notice.said m es).merge (.said m' [e]) =
    if es.length < 8 then .said m (es ++ [e]) else .said true es) ∧
  (∀ (r r' : JudgedReport) (k k' : Nat), (Notice.wordJudged r k).merge (.wordJudged r' k') =
    .wordJudged r' (min 255 (k + 1))) ∧
  (∀ c c' k k' : Nat, (Notice.fault c k).merge (.fault c' k') = .fault c' (min 255 (k + 1))) ∧
  (∀ (c c' : LinkCause) (k k' : Nat), (Notice.linkError c k).merge (.linkError c' k') =
    .linkError c' (min 255 (k + 1))) ∧
  (∀ old n : Notice, old.kind = n.kind →
    n.kind ∉ [NoticeKind.keyPass, .said, .wordJudged, .fault, .linkError] → old.merge n = n)

/-- Every taken command, but a BEGIN that starts the bank check, is carried out and answered by exactly one reply, which enters
after the replies that wait and carries its tag and its kind code plus 0x80, 0xFF for an unknown kind; one that is not answered
OK changes nothing else and its reply carries the result code alone; an unknown kind is answered UNKNOWN (09 R155 to R157). -/
def Obligations.CommandsAreAnsweredOnce : Prop :=
  ∀ (c : Instr) (k tag : Byte) (p : List Byte) (s u : State), c.hostFrame = some (k, tag, p) → c.wf = true →
    (k = 0x02 → s.op ≠ .setup ∨ p ≠ []) → Takes s ⟨k, tag, p⟩ u →
    let kind := if knownKind k = true then k + 0x80 else 0xFF
    ∃ t r payload, exec c s = .next t ∧
      t.link.outbox.filter OutFrame.isReply =
        s.link.outbox.filter OutFrame.isReply ++ [.reply ⟨kind, tag, r, payload⟩] ∧
      (r ≠ .ok → t = u.replied kind tag r []) ∧ (knownKind k = false → r = .unknown)

/-! ### Laws of the whole part -/

/-- Every step keeps the outbox law: one frame of each notice kind, four reply places, two frames in the inbox (09 R154, R155,
R159, R160). -/
def Obligations.StepKeepsOutboxLaw : Prop :=
  ∀ s t : State, OutboxLaw s → step s = .next t → OutboxLaw t

/-- Every step keeps the frame law, and so the body of the frame in transmission fits its LEN and LEN, body and CHECK sum to 0
(09 R151). -/
def Obligations.StepKeepsFramesGood : Prop :=
  ∀ s t : State, FrameLaw s → step s = .next t →
    FrameLaw t ∧
      ∀ f, t.link.transmitting = some f →
        f.fits = true ∧ ∃ bytes, t.txdFrame = 0xC3 :: bytes ∧ byteSum bytes = 0 ∧ bytes.length = f.body.length + 2

/-- Every step keeps the word cycle law (03 R40, R52; 04 R63; 07 R124 to R127): phase, lesson, Judge and Cue Timer go together. -/
def Obligations.StepKeepsWordCycleLaw : Prop :=
  ∀ s t : State, WordCycleLaw s → step s = .next t → WordCycleLaw t

/-- Every step keeps the bounds of the part's stores and the ranges of its settings, and a running Cue Timer has a count left:
the decrement to 0 is an expiry, which loads or stops it (07 R128, log 7). -/
def Obligations.StepKeepsBounds : Prop :=
  ∀ s t : State, CapacityLaw s → SettingsLaw s → step s = .next t → CapacityLaw t ∧ SettingsLaw t

/-- Every step keeps each utterance in its own source's places, with the backup of a sounding source empty (05 R85, 06 R114),
and AMP and the output code with the running place: AMP is ACTIVE exactly while it is filled, and the code is 512 while it is
empty (08 R143, R145; from the emptying step on: log 23). -/
def Obligations.StepKeepsSpeechLaws : Prop :=
  ∀ s t : State, PlaceLaw s → SpeakerLaw s → step s = .next t → PlaceLaw t ∧ SpeakerLaw t

/-- Every step keeps VERDICT to OOPS, HINT, FEEDBACK and SPELLBACK, its list within 4 and empty while an attempt is judged, and
at most one feedback, in phase FEEDBACK, but for one that fades out unheard (03 R54, R56; 05 R86, R96). -/
def Obligations.StepKeepsVerdictLaw : Prop :=
  ∀ s t : State, PlaceLaw s → WordCycleLaw s → VerdictLaw s → step s = .next t → VerdictLaw t

/-- Every step keeps the held set and the intervals in position order, the scanner empty in SETUP, where it is off (01 R7, R16),
and the held set empty in DOZE, where the scanner runs as the wake watch: a key down at DOZE wakes the part in the same step
(10 R168, R169; log 20), and a completed press interval wakes it. -/
def Obligations.StepKeepsScannerLaw : Prop :=
  ∀ s t : State, ScannerLaw s → step s = .next t → ScannerLaw t

/-- No step writes the speech bank (08 R133), and a tally decreases only at SET_WINDOW or pin reset (04 R79). -/
def Obligations.BankAndTalliesAreKept : Prop :=
  ∀ (c : Instr) (s t : State), exec c s = .next t →
    t.bank.flash = s.bank.flash ∧
    (SettingsLaw s → c ≠ .pinReset → c ≠ .resetnRelease → (∀ tag p, c ≠ .setWindow tag p) →
      s.judge.letterErrors ≤ t.judge.letterErrors ∧ s.judge.attemptsJudged ≤ t.judge.attemptsJudged ∧
      s.judge.exactCount ≤ t.judge.exactCount)
end

