-- ==== Sys2Proof/Laws/Bank.lean ====
section
/-! SUPPORT. The speech bank's flash (08 R133): a write keeps the canonical form, a read after a write to the same place gives
the byte written, and a write leaves every other place alone. -/

namespace Sys2Proof.Machine

theorem flashAbove_mono {a b : Nat} (h : b ≤ a) : ∀ m : List Host.Cell, flashAbove a m = true → flashAbove b m = true
  | [], _ => rfl
  | c :: rest, hm => by
    simp only [flashAbove, Bool.and_eq_true, decide_eq_true_eq] at hm ⊢
    exact ⟨⟨by omega, hm.1.2⟩, hm.2⟩

theorem Memory.wf_of_flashAbove {a : Nat} : ∀ {m : List Host.Cell}, flashAbove a m = true → Memory.wf m = true
  | [], _ => rfl
  | c :: rest, h => by
    simp only [flashAbove, Memory.wf, Bool.and_eq_true] at h ⊢
    exact ⟨h.1.2, h.2⟩

theorem flashRead_of_above {a x : Nat} (hx : x ≤ a) : ∀ m : List Host.Cell, flashAbove a m = true →
    flashRead m x = Config.erasedByte
  | [], _ => rfl
  | c :: rest, hm => by
    simp only [flashAbove, Bool.and_eq_true, decide_eq_true_eq] at hm
    have hne : c.1 ≠ x := by omega
    simp only [flashRead, hne, if_false]
    exact flashRead_of_above (a := c.1) (by omega) rest hm.2

theorem flashWrite_above {a x : Nat} (b : Byte) (hx : a < x) : ∀ m : List Host.Cell, flashAbove a m = true →
    flashAbove a (flashWrite m x b) = true
  | [], _ => by
    unfold flashWrite
    split
    · rfl
    · next h => simp [flashAbove, hx, h]
  | c :: rest, hm => by
    have h := hm
    simp only [flashAbove, Bool.and_eq_true, decide_eq_true_eq] at h
    unfold flashWrite
    split
    · next heq =>
      split
      · exact flashAbove_mono (by omega) rest h.2
      · next hb =>
        simp only [flashAbove, Bool.and_eq_true, decide_eq_true_eq]
        exact ⟨⟨hx, hb⟩, heq ▸ h.2⟩
    · split
      · next hlt =>
        split
        · exact hm
        · next hb =>
          simp only [flashAbove, Bool.and_eq_true, decide_eq_true_eq]
          exact ⟨⟨hx, hb⟩, ⟨hlt, h.1.2⟩, h.2⟩
      · next hne hnlt =>
        simp only [flashAbove, Bool.and_eq_true, decide_eq_true_eq]
        exact ⟨h.1, flashWrite_above b (by omega) rest h.2⟩

/-- A write keeps the canonical form. -/
theorem flashWrite_keeps_wf (m : List Host.Cell) (x : Nat) (b : Byte) (hm : Memory.wf m = true) :
    Memory.wf (flashWrite m x b) = true := by
  cases m with
  | nil =>
    unfold flashWrite
    split
    · rfl
    · next h => simp [Memory.wf, flashAbove, h]
  | cons c rest =>
    have h := hm
    simp only [Memory.wf, Bool.and_eq_true, decide_eq_true_eq] at h
    unfold flashWrite
    split
    · next heq =>
      split
      · exact Memory.wf_of_flashAbove h.2
      · next hb =>
        simp only [Memory.wf, Bool.and_eq_true, decide_eq_true_eq]
        exact ⟨hb, heq ▸ h.2⟩
    · split
      · next hlt =>
        split
        · exact hm
        · next hb =>
          simp only [Memory.wf, flashAbove, Bool.and_eq_true, decide_eq_true_eq]
          exact ⟨hb, ⟨hlt, h.1⟩, h.2⟩
      · next hne hnlt =>
        simp only [Memory.wf, Bool.and_eq_true, decide_eq_true_eq]
        exact ⟨h.1, flashWrite_above b (by omega) rest h.2⟩

/-- A write leaves every other place alone. -/
theorem flashRead_flashWrite_ne {x y : Nat} (b : Byte) (hne : y ≠ x) : ∀ m : List Host.Cell,
    flashRead (flashWrite m x b) y = flashRead m y
  | [] => by
    unfold flashWrite
    split
    · rfl
    · simp [flashRead, Ne.symm hne]
  | c :: rest => by
    unfold flashWrite
    split
    · next heq =>
      split <;> simp [flashRead, heq, Ne.symm hne]
    · split
      · split
        · rfl
        · simp [flashRead, Ne.symm hne]
      · simp only [flashRead]
        rw [flashRead_flashWrite_ne b hne rest]

theorem flashRead_flashWrite_self_above {a x : Nat} (b : Byte) : ∀ m : List Host.Cell,
    flashAbove a m = true → flashRead (flashWrite m x b) x = b
  | [], _ => by
    unfold flashWrite
    split
    · next h => simp [flashRead, h]
    · simp [flashRead]
  | c :: rest, hm => by
    have h := hm
    simp only [flashAbove, Bool.and_eq_true, decide_eq_true_eq] at h
    unfold flashWrite
    split
    · next heq =>
      split
      · next hb => rw [hb]; exact flashRead_of_above (a := c.1) (by omega) rest h.2
      · simp [flashRead]
    · next hne =>
      split
      · next hlt =>
        split
        · next hb =>
          simp only [flashRead, hne, if_false, hb]
          exact flashRead_of_above (a := c.1) (by omega) rest h.2
        · simp [flashRead]
      · next hnlt =>
        simp only [flashRead, hne, if_false]
        exact flashRead_flashWrite_self_above b rest h.2

/-- A read after a write to the same place gives the byte written. -/
theorem flashRead_flashWrite_self (m : List Host.Cell) (x : Nat) (b : Byte) (hm : Memory.wf m = true) :
    flashRead (flashWrite m x b) x = b := by
  cases m with
  | nil =>
    unfold flashWrite
    split
    · next h => simp [flashRead, h]
    · simp [flashRead]
  | cons c rest =>
    have h := hm
    simp only [Memory.wf, Bool.and_eq_true, decide_eq_true_eq] at h
    unfold flashWrite
    split
    · next heq =>
      split
      · next hb => rw [hb]; exact flashRead_of_above (a := c.1) (by omega) rest h.2
      · simp [flashRead]
    · next hne =>
      split
      · next hlt =>
        split
        · next hb =>
          simp only [flashRead, hne, if_false, hb]
          exact flashRead_of_above (a := c.1) (by omega) rest h.2
        · simp [flashRead]
      · next hnlt =>
        simp only [flashRead, hne, if_false]
        exact flashRead_flashWrite_self_above b rest h.2

/-- The flash at reset has the canonical form. -/
theorem reset_flash_wf : Memory.wf State.reset.bank.flash = true := rfl

end Sys2Proof.Machine
end

