-- ==== Sys2Proof/Laws/State.lean ====
section
/-! SUPPORT. What each field of State reads after one block was replaced, one lemma per field and update, and the places of
the sources after one was replaced. -/

namespace Sys2Proof.Machine

/-! ### putScanner -/

@[simp] theorem State.putScanner_resetLow (s : State) (b : Scanner) : (s.putScanner b).resetLow = s.resetLow := rfl
@[simp] theorem State.putScanner_op (s : State) (b : Scanner) : (s.putScanner b).op = s.op := rfl
@[simp] theorem State.putScanner_scanner (s : State) (b : Scanner) : (s.putScanner b).scanner = b := rfl
@[simp] theorem State.putScanner_ring (s : State) (b : Scanner) : (s.putScanner b).ring = s.ring := rfl
@[simp] theorem State.putScanner_intake (s : State) (b : Scanner) : (s.putScanner b).intake = s.intake := rfl
@[simp] theorem State.putScanner_cycle (s : State) (b : Scanner) : (s.putScanner b).cycle = s.cycle := rfl
@[simp] theorem State.putScanner_judge (s : State) (b : Scanner) : (s.putScanner b).judge = s.judge := rfl
@[simp] theorem State.putScanner_sources (s : State) (b : Scanner) : (s.putScanner b).sources = s.sources := rfl
@[simp] theorem State.putScanner_arbiter (s : State) (b : Scanner) : (s.putScanner b).arbiter = s.arbiter := rfl
@[simp] theorem State.putScanner_cue (s : State) (b : Scanner) : (s.putScanner b).cue = s.cue := rfl
@[simp] theorem State.putScanner_voice (s : State) (b : Scanner) : (s.putScanner b).voice = s.voice := rfl
@[simp] theorem State.putScanner_bank (s : State) (b : Scanner) : (s.putScanner b).bank = s.bank := rfl
@[simp] theorem State.putScanner_link (s : State) (b : Scanner) : (s.putScanner b).link = s.link := rfl
@[simp] theorem State.putScanner_pending (s : State) (b : Scanner) : (s.putScanner b).pending = s.pending := rfl

/-! ### putRing -/

@[simp] theorem State.putRing_resetLow (s : State) (b : Ring) : (s.putRing b).resetLow = s.resetLow := rfl
@[simp] theorem State.putRing_op (s : State) (b : Ring) : (s.putRing b).op = s.op := rfl
@[simp] theorem State.putRing_scanner (s : State) (b : Ring) : (s.putRing b).scanner = s.scanner := rfl
@[simp] theorem State.putRing_ring (s : State) (b : Ring) : (s.putRing b).ring = b := rfl
@[simp] theorem State.putRing_intake (s : State) (b : Ring) : (s.putRing b).intake = s.intake := rfl
@[simp] theorem State.putRing_cycle (s : State) (b : Ring) : (s.putRing b).cycle = s.cycle := rfl
@[simp] theorem State.putRing_judge (s : State) (b : Ring) : (s.putRing b).judge = s.judge := rfl
@[simp] theorem State.putRing_sources (s : State) (b : Ring) : (s.putRing b).sources = s.sources := rfl
@[simp] theorem State.putRing_arbiter (s : State) (b : Ring) : (s.putRing b).arbiter = s.arbiter := rfl
@[simp] theorem State.putRing_cue (s : State) (b : Ring) : (s.putRing b).cue = s.cue := rfl
@[simp] theorem State.putRing_voice (s : State) (b : Ring) : (s.putRing b).voice = s.voice := rfl
@[simp] theorem State.putRing_bank (s : State) (b : Ring) : (s.putRing b).bank = s.bank := rfl
@[simp] theorem State.putRing_link (s : State) (b : Ring) : (s.putRing b).link = s.link := rfl
@[simp] theorem State.putRing_pending (s : State) (b : Ring) : (s.putRing b).pending = s.pending := rfl

/-! ### putIntake -/

@[simp] theorem State.putIntake_resetLow (s : State) (b : Intake) : (s.putIntake b).resetLow = s.resetLow := rfl
@[simp] theorem State.putIntake_op (s : State) (b : Intake) : (s.putIntake b).op = s.op := rfl
@[simp] theorem State.putIntake_scanner (s : State) (b : Intake) : (s.putIntake b).scanner = s.scanner := rfl
@[simp] theorem State.putIntake_ring (s : State) (b : Intake) : (s.putIntake b).ring = s.ring := rfl
@[simp] theorem State.putIntake_intake (s : State) (b : Intake) : (s.putIntake b).intake = b := rfl
@[simp] theorem State.putIntake_cycle (s : State) (b : Intake) : (s.putIntake b).cycle = s.cycle := rfl
@[simp] theorem State.putIntake_judge (s : State) (b : Intake) : (s.putIntake b).judge = s.judge := rfl
@[simp] theorem State.putIntake_sources (s : State) (b : Intake) : (s.putIntake b).sources = s.sources := rfl
@[simp] theorem State.putIntake_arbiter (s : State) (b : Intake) : (s.putIntake b).arbiter = s.arbiter := rfl
@[simp] theorem State.putIntake_cue (s : State) (b : Intake) : (s.putIntake b).cue = s.cue := rfl
@[simp] theorem State.putIntake_voice (s : State) (b : Intake) : (s.putIntake b).voice = s.voice := rfl
@[simp] theorem State.putIntake_bank (s : State) (b : Intake) : (s.putIntake b).bank = s.bank := rfl
@[simp] theorem State.putIntake_link (s : State) (b : Intake) : (s.putIntake b).link = s.link := rfl
@[simp] theorem State.putIntake_pending (s : State) (b : Intake) : (s.putIntake b).pending = s.pending := rfl

/-! ### putCycle -/

@[simp] theorem State.putCycle_resetLow (s : State) (b : Cycle) : (s.putCycle b).resetLow = s.resetLow := rfl
@[simp] theorem State.putCycle_op (s : State) (b : Cycle) : (s.putCycle b).op = s.op := rfl
@[simp] theorem State.putCycle_scanner (s : State) (b : Cycle) : (s.putCycle b).scanner = s.scanner := rfl
@[simp] theorem State.putCycle_ring (s : State) (b : Cycle) : (s.putCycle b).ring = s.ring := rfl
@[simp] theorem State.putCycle_intake (s : State) (b : Cycle) : (s.putCycle b).intake = s.intake := rfl
@[simp] theorem State.putCycle_cycle (s : State) (b : Cycle) : (s.putCycle b).cycle = b := rfl
@[simp] theorem State.putCycle_judge (s : State) (b : Cycle) : (s.putCycle b).judge = s.judge := rfl
@[simp] theorem State.putCycle_sources (s : State) (b : Cycle) : (s.putCycle b).sources = s.sources := rfl
@[simp] theorem State.putCycle_arbiter (s : State) (b : Cycle) : (s.putCycle b).arbiter = s.arbiter := rfl
@[simp] theorem State.putCycle_cue (s : State) (b : Cycle) : (s.putCycle b).cue = s.cue := rfl
@[simp] theorem State.putCycle_voice (s : State) (b : Cycle) : (s.putCycle b).voice = s.voice := rfl
@[simp] theorem State.putCycle_bank (s : State) (b : Cycle) : (s.putCycle b).bank = s.bank := rfl
@[simp] theorem State.putCycle_link (s : State) (b : Cycle) : (s.putCycle b).link = s.link := rfl
@[simp] theorem State.putCycle_pending (s : State) (b : Cycle) : (s.putCycle b).pending = s.pending := rfl

/-! ### putJudge -/

@[simp] theorem State.putJudge_resetLow (s : State) (b : Judge) : (s.putJudge b).resetLow = s.resetLow := rfl
@[simp] theorem State.putJudge_op (s : State) (b : Judge) : (s.putJudge b).op = s.op := rfl
@[simp] theorem State.putJudge_scanner (s : State) (b : Judge) : (s.putJudge b).scanner = s.scanner := rfl
@[simp] theorem State.putJudge_ring (s : State) (b : Judge) : (s.putJudge b).ring = s.ring := rfl
@[simp] theorem State.putJudge_intake (s : State) (b : Judge) : (s.putJudge b).intake = s.intake := rfl
@[simp] theorem State.putJudge_cycle (s : State) (b : Judge) : (s.putJudge b).cycle = s.cycle := rfl
@[simp] theorem State.putJudge_judge (s : State) (b : Judge) : (s.putJudge b).judge = b := rfl
@[simp] theorem State.putJudge_sources (s : State) (b : Judge) : (s.putJudge b).sources = s.sources := rfl
@[simp] theorem State.putJudge_arbiter (s : State) (b : Judge) : (s.putJudge b).arbiter = s.arbiter := rfl
@[simp] theorem State.putJudge_cue (s : State) (b : Judge) : (s.putJudge b).cue = s.cue := rfl
@[simp] theorem State.putJudge_voice (s : State) (b : Judge) : (s.putJudge b).voice = s.voice := rfl
@[simp] theorem State.putJudge_bank (s : State) (b : Judge) : (s.putJudge b).bank = s.bank := rfl
@[simp] theorem State.putJudge_link (s : State) (b : Judge) : (s.putJudge b).link = s.link := rfl
@[simp] theorem State.putJudge_pending (s : State) (b : Judge) : (s.putJudge b).pending = s.pending := rfl

/-! ### putSources -/

@[simp] theorem State.putSources_resetLow (s : State) (b : Sources) : (s.putSources b).resetLow = s.resetLow := rfl
@[simp] theorem State.putSources_op (s : State) (b : Sources) : (s.putSources b).op = s.op := rfl
@[simp] theorem State.putSources_scanner (s : State) (b : Sources) : (s.putSources b).scanner = s.scanner := rfl
@[simp] theorem State.putSources_ring (s : State) (b : Sources) : (s.putSources b).ring = s.ring := rfl
@[simp] theorem State.putSources_intake (s : State) (b : Sources) : (s.putSources b).intake = s.intake := rfl
@[simp] theorem State.putSources_cycle (s : State) (b : Sources) : (s.putSources b).cycle = s.cycle := rfl
@[simp] theorem State.putSources_judge (s : State) (b : Sources) : (s.putSources b).judge = s.judge := rfl
@[simp] theorem State.putSources_sources (s : State) (b : Sources) : (s.putSources b).sources = b := rfl
@[simp] theorem State.putSources_arbiter (s : State) (b : Sources) : (s.putSources b).arbiter = s.arbiter := rfl
@[simp] theorem State.putSources_cue (s : State) (b : Sources) : (s.putSources b).cue = s.cue := rfl
@[simp] theorem State.putSources_voice (s : State) (b : Sources) : (s.putSources b).voice = s.voice := rfl
@[simp] theorem State.putSources_bank (s : State) (b : Sources) : (s.putSources b).bank = s.bank := rfl
@[simp] theorem State.putSources_link (s : State) (b : Sources) : (s.putSources b).link = s.link := rfl
@[simp] theorem State.putSources_pending (s : State) (b : Sources) : (s.putSources b).pending = s.pending := rfl

/-! ### putArbiter -/

@[simp] theorem State.putArbiter_resetLow (s : State) (b : Arbiter) : (s.putArbiter b).resetLow = s.resetLow := rfl
@[simp] theorem State.putArbiter_op (s : State) (b : Arbiter) : (s.putArbiter b).op = s.op := rfl
@[simp] theorem State.putArbiter_scanner (s : State) (b : Arbiter) : (s.putArbiter b).scanner = s.scanner := rfl
@[simp] theorem State.putArbiter_ring (s : State) (b : Arbiter) : (s.putArbiter b).ring = s.ring := rfl
@[simp] theorem State.putArbiter_intake (s : State) (b : Arbiter) : (s.putArbiter b).intake = s.intake := rfl
@[simp] theorem State.putArbiter_cycle (s : State) (b : Arbiter) : (s.putArbiter b).cycle = s.cycle := rfl
@[simp] theorem State.putArbiter_judge (s : State) (b : Arbiter) : (s.putArbiter b).judge = s.judge := rfl
@[simp] theorem State.putArbiter_sources (s : State) (b : Arbiter) : (s.putArbiter b).sources = s.sources := rfl
@[simp] theorem State.putArbiter_arbiter (s : State) (b : Arbiter) : (s.putArbiter b).arbiter = b := rfl
@[simp] theorem State.putArbiter_cue (s : State) (b : Arbiter) : (s.putArbiter b).cue = s.cue := rfl
@[simp] theorem State.putArbiter_voice (s : State) (b : Arbiter) : (s.putArbiter b).voice = s.voice := rfl
@[simp] theorem State.putArbiter_bank (s : State) (b : Arbiter) : (s.putArbiter b).bank = s.bank := rfl
@[simp] theorem State.putArbiter_link (s : State) (b : Arbiter) : (s.putArbiter b).link = s.link := rfl
@[simp] theorem State.putArbiter_pending (s : State) (b : Arbiter) : (s.putArbiter b).pending = s.pending := rfl

/-! ### putCue -/

@[simp] theorem State.putCue_resetLow (s : State) (b : CueTimer) : (s.putCue b).resetLow = s.resetLow := rfl
@[simp] theorem State.putCue_op (s : State) (b : CueTimer) : (s.putCue b).op = s.op := rfl
@[simp] theorem State.putCue_scanner (s : State) (b : CueTimer) : (s.putCue b).scanner = s.scanner := rfl
@[simp] theorem State.putCue_ring (s : State) (b : CueTimer) : (s.putCue b).ring = s.ring := rfl
@[simp] theorem State.putCue_intake (s : State) (b : CueTimer) : (s.putCue b).intake = s.intake := rfl
@[simp] theorem State.putCue_cycle (s : State) (b : CueTimer) : (s.putCue b).cycle = s.cycle := rfl
@[simp] theorem State.putCue_judge (s : State) (b : CueTimer) : (s.putCue b).judge = s.judge := rfl
@[simp] theorem State.putCue_sources (s : State) (b : CueTimer) : (s.putCue b).sources = s.sources := rfl
@[simp] theorem State.putCue_arbiter (s : State) (b : CueTimer) : (s.putCue b).arbiter = s.arbiter := rfl
@[simp] theorem State.putCue_cue (s : State) (b : CueTimer) : (s.putCue b).cue = b := rfl
@[simp] theorem State.putCue_voice (s : State) (b : CueTimer) : (s.putCue b).voice = s.voice := rfl
@[simp] theorem State.putCue_bank (s : State) (b : CueTimer) : (s.putCue b).bank = s.bank := rfl
@[simp] theorem State.putCue_link (s : State) (b : CueTimer) : (s.putCue b).link = s.link := rfl
@[simp] theorem State.putCue_pending (s : State) (b : CueTimer) : (s.putCue b).pending = s.pending := rfl

/-! ### putVoice -/

@[simp] theorem State.putVoice_resetLow (s : State) (b : Voice) : (s.putVoice b).resetLow = s.resetLow := rfl
@[simp] theorem State.putVoice_op (s : State) (b : Voice) : (s.putVoice b).op = s.op := rfl
@[simp] theorem State.putVoice_scanner (s : State) (b : Voice) : (s.putVoice b).scanner = s.scanner := rfl
@[simp] theorem State.putVoice_ring (s : State) (b : Voice) : (s.putVoice b).ring = s.ring := rfl
@[simp] theorem State.putVoice_intake (s : State) (b : Voice) : (s.putVoice b).intake = s.intake := rfl
@[simp] theorem State.putVoice_cycle (s : State) (b : Voice) : (s.putVoice b).cycle = s.cycle := rfl
@[simp] theorem State.putVoice_judge (s : State) (b : Voice) : (s.putVoice b).judge = s.judge := rfl
@[simp] theorem State.putVoice_sources (s : State) (b : Voice) : (s.putVoice b).sources = s.sources := rfl
@[simp] theorem State.putVoice_arbiter (s : State) (b : Voice) : (s.putVoice b).arbiter = s.arbiter := rfl
@[simp] theorem State.putVoice_cue (s : State) (b : Voice) : (s.putVoice b).cue = s.cue := rfl
@[simp] theorem State.putVoice_voice (s : State) (b : Voice) : (s.putVoice b).voice = b := rfl
@[simp] theorem State.putVoice_bank (s : State) (b : Voice) : (s.putVoice b).bank = s.bank := rfl
@[simp] theorem State.putVoice_link (s : State) (b : Voice) : (s.putVoice b).link = s.link := rfl
@[simp] theorem State.putVoice_pending (s : State) (b : Voice) : (s.putVoice b).pending = s.pending := rfl

/-! ### putBank -/

@[simp] theorem State.putBank_resetLow (s : State) (b : Bank) : (s.putBank b).resetLow = s.resetLow := rfl
@[simp] theorem State.putBank_op (s : State) (b : Bank) : (s.putBank b).op = s.op := rfl
@[simp] theorem State.putBank_scanner (s : State) (b : Bank) : (s.putBank b).scanner = s.scanner := rfl
@[simp] theorem State.putBank_ring (s : State) (b : Bank) : (s.putBank b).ring = s.ring := rfl
@[simp] theorem State.putBank_intake (s : State) (b : Bank) : (s.putBank b).intake = s.intake := rfl
@[simp] theorem State.putBank_cycle (s : State) (b : Bank) : (s.putBank b).cycle = s.cycle := rfl
@[simp] theorem State.putBank_judge (s : State) (b : Bank) : (s.putBank b).judge = s.judge := rfl
@[simp] theorem State.putBank_sources (s : State) (b : Bank) : (s.putBank b).sources = s.sources := rfl
@[simp] theorem State.putBank_arbiter (s : State) (b : Bank) : (s.putBank b).arbiter = s.arbiter := rfl
@[simp] theorem State.putBank_cue (s : State) (b : Bank) : (s.putBank b).cue = s.cue := rfl
@[simp] theorem State.putBank_voice (s : State) (b : Bank) : (s.putBank b).voice = s.voice := rfl
@[simp] theorem State.putBank_bank (s : State) (b : Bank) : (s.putBank b).bank = b := rfl
@[simp] theorem State.putBank_link (s : State) (b : Bank) : (s.putBank b).link = s.link := rfl
@[simp] theorem State.putBank_pending (s : State) (b : Bank) : (s.putBank b).pending = s.pending := rfl

/-! ### putLink -/

@[simp] theorem State.putLink_resetLow (s : State) (b : Link) : (s.putLink b).resetLow = s.resetLow := rfl
@[simp] theorem State.putLink_op (s : State) (b : Link) : (s.putLink b).op = s.op := rfl
@[simp] theorem State.putLink_scanner (s : State) (b : Link) : (s.putLink b).scanner = s.scanner := rfl
@[simp] theorem State.putLink_ring (s : State) (b : Link) : (s.putLink b).ring = s.ring := rfl
@[simp] theorem State.putLink_intake (s : State) (b : Link) : (s.putLink b).intake = s.intake := rfl
@[simp] theorem State.putLink_cycle (s : State) (b : Link) : (s.putLink b).cycle = s.cycle := rfl
@[simp] theorem State.putLink_judge (s : State) (b : Link) : (s.putLink b).judge = s.judge := rfl
@[simp] theorem State.putLink_sources (s : State) (b : Link) : (s.putLink b).sources = s.sources := rfl
@[simp] theorem State.putLink_arbiter (s : State) (b : Link) : (s.putLink b).arbiter = s.arbiter := rfl
@[simp] theorem State.putLink_cue (s : State) (b : Link) : (s.putLink b).cue = s.cue := rfl
@[simp] theorem State.putLink_voice (s : State) (b : Link) : (s.putLink b).voice = s.voice := rfl
@[simp] theorem State.putLink_bank (s : State) (b : Link) : (s.putLink b).bank = s.bank := rfl
@[simp] theorem State.putLink_link (s : State) (b : Link) : (s.putLink b).link = b := rfl
@[simp] theorem State.putLink_pending (s : State) (b : Link) : (s.putLink b).pending = s.pending := rfl

/-! ### putOp -/

@[simp] theorem State.putOp_resetLow (s : State) (b : OpState) : (s.putOp b).resetLow = s.resetLow := rfl
@[simp] theorem State.putOp_op (s : State) (b : OpState) : (s.putOp b).op = b := rfl
@[simp] theorem State.putOp_scanner (s : State) (b : OpState) : (s.putOp b).scanner = s.scanner := rfl
@[simp] theorem State.putOp_ring (s : State) (b : OpState) : (s.putOp b).ring = s.ring := rfl
@[simp] theorem State.putOp_intake (s : State) (b : OpState) : (s.putOp b).intake = s.intake := rfl
@[simp] theorem State.putOp_cycle (s : State) (b : OpState) : (s.putOp b).cycle = s.cycle := rfl
@[simp] theorem State.putOp_judge (s : State) (b : OpState) : (s.putOp b).judge = s.judge := rfl
@[simp] theorem State.putOp_sources (s : State) (b : OpState) : (s.putOp b).sources = s.sources := rfl
@[simp] theorem State.putOp_arbiter (s : State) (b : OpState) : (s.putOp b).arbiter = s.arbiter := rfl
@[simp] theorem State.putOp_cue (s : State) (b : OpState) : (s.putOp b).cue = s.cue := rfl
@[simp] theorem State.putOp_voice (s : State) (b : OpState) : (s.putOp b).voice = s.voice := rfl
@[simp] theorem State.putOp_bank (s : State) (b : OpState) : (s.putOp b).bank = s.bank := rfl
@[simp] theorem State.putOp_link (s : State) (b : OpState) : (s.putOp b).link = s.link := rfl
@[simp] theorem State.putOp_pending (s : State) (b : OpState) : (s.putOp b).pending = s.pending := rfl

/-! ### One entry for each source -/

@[simp] theorem PerSource.get_set_self {α : Type} (p : PerSource α) (s : Source) (a : α) : (p.set s a).get s = a := by
  cases s <;> rfl

theorem PerSource.get_set_ne {α : Type} (p : PerSource α) {s r : Source} (a : α) (h : r ≠ s) :
    (p.set s a).get r = p.get r := by
  cases s <;> cases r <;> first | rfl | exact absurd rfl h

@[simp] theorem PerSource.get_sweepLesson (p : PerSource Place) (s : Source) :
    p.sweepLesson.get s = if s.isLesson = true then ⟨[], none⟩ else p.get s := by
  cases s <;> rfl

/-! ### Places -/

@[simp] theorem State.place_putPlace_self (s : State) (src : Source) (p : Place) : (s.putPlace src p).place src = p :=
  PerSource.get_set_self _ _ _

theorem State.place_putPlace_ne (s : State) {src r : Source} (p : Place) (h : r ≠ src) :
    (s.putPlace src p).place r = s.place r :=
  PerSource.get_set_ne _ _ h

@[simp] theorem State.putPlace_phrases (s : State) (src : Source) (p : Place) :
    (s.putPlace src p).sources.phrases = s.sources.phrases := rfl

@[simp] theorem State.putPlace_resetLow (s : State) (src : Source) (p : Place) : (s.putPlace src p).resetLow = s.resetLow := rfl
@[simp] theorem State.putPlace_op (s : State) (src : Source) (p : Place) : (s.putPlace src p).op = s.op := rfl
@[simp] theorem State.putPlace_scanner (s : State) (src : Source) (p : Place) : (s.putPlace src p).scanner = s.scanner := rfl
@[simp] theorem State.putPlace_ring (s : State) (src : Source) (p : Place) : (s.putPlace src p).ring = s.ring := rfl
@[simp] theorem State.putPlace_intake (s : State) (src : Source) (p : Place) : (s.putPlace src p).intake = s.intake := rfl
@[simp] theorem State.putPlace_cycle (s : State) (src : Source) (p : Place) : (s.putPlace src p).cycle = s.cycle := rfl
@[simp] theorem State.putPlace_judge (s : State) (src : Source) (p : Place) : (s.putPlace src p).judge = s.judge := rfl
@[simp] theorem State.putPlace_arbiter (s : State) (src : Source) (p : Place) : (s.putPlace src p).arbiter = s.arbiter := rfl
@[simp] theorem State.putPlace_cue (s : State) (src : Source) (p : Place) : (s.putPlace src p).cue = s.cue := rfl
@[simp] theorem State.putPlace_voice (s : State) (src : Source) (p : Place) : (s.putPlace src p).voice = s.voice := rfl
@[simp] theorem State.putPlace_bank (s : State) (src : Source) (p : Place) : (s.putPlace src p).bank = s.bank := rfl
@[simp] theorem State.putPlace_link (s : State) (src : Source) (p : Place) : (s.putPlace src p).link = s.link := rfl
@[simp] theorem State.putPlace_pending (s : State) (src : Source) (p : Place) : (s.putPlace src p).pending = s.pending := rfl

/-! ### A source's places under the other blocks' replacement -/

@[simp] theorem State.place_putScanner (s : State) (b : Scanner) (src : Source) : (s.putScanner b).place src = s.place src := rfl
@[simp] theorem State.place_putRing (s : State) (b : Ring) (src : Source) : (s.putRing b).place src = s.place src := rfl
@[simp] theorem State.place_putIntake (s : State) (b : Intake) (src : Source) : (s.putIntake b).place src = s.place src := rfl
@[simp] theorem State.place_putCycle (s : State) (b : Cycle) (src : Source) : (s.putCycle b).place src = s.place src := rfl
@[simp] theorem State.place_putJudge (s : State) (b : Judge) (src : Source) : (s.putJudge b).place src = s.place src := rfl
@[simp] theorem State.place_putArbiter (s : State) (b : Arbiter) (src : Source) : (s.putArbiter b).place src = s.place src := rfl
@[simp] theorem State.place_putCue (s : State) (b : CueTimer) (src : Source) : (s.putCue b).place src = s.place src := rfl
@[simp] theorem State.place_putVoice (s : State) (b : Voice) (src : Source) : (s.putVoice b).place src = s.place src := rfl
@[simp] theorem State.place_putBank (s : State) (b : Bank) (src : Source) : (s.putBank b).place src = s.place src := rfl
@[simp] theorem State.place_putLink (s : State) (b : Link) (src : Source) : (s.putLink b).place src = s.place src := rfl
@[simp] theorem State.place_putOp (s : State) (b : OpState) (src : Source) : (s.putOp b).place src = s.place src := rfl

end Sys2Proof.Machine
end

