-- ==== Sys2Proof/Laws/Link.lean ====
section
/-! SUPPORT. What the Link Port's shared operations can do: a raise, a reply, the taking of a frame and the answer to a command
(09 R155 to R160). -/

namespace Sys2Proof.Machine

/-! ### A step under its condition -/

theorem State.occurs_of (s : State) {cond : Bool} (f : State → State) (hl : s.resetLow = false) (hc : cond = true) :
    s.occurs cond f = .next (f s) := by
  simp [State.occurs, hl, hc]

theorem State.occurs_not (s : State) {cond : Bool} (f : State → State) (h : s.resetLow = true ∨ cond = false) :
    s.occurs cond f = .next s := by
  rcases h with h | h <;> simp [State.occurs, h]

/-- A step either makes its change or none. -/
theorem State.occurs_cases {s t : State} {cond : Bool} {f : State → State} (h : s.occurs cond f = .next t) :
    (s.resetLow = false ∧ cond = true ∧ t = f s) ∨ ((s.resetLow = true ∨ cond = false) ∧ t = s) := by
  unfold State.occurs at h
  cases hl : s.resetLow <;> cases cond <;> simp [hl] at h <;> simp [h]

/-! ### A raise -/

/-- What a raise can do to the Link Port (09 R160). -/
theorem Link.raise_cases (l : Link) (n : Notice) :
    (∃ h, l.raise n = { l with held := some h } ∧ h.kind = n.kind ∧
        (l.transmitting.map (OutFrame.hasKind n.kind)).getD false = true ∧
        (h = n ∨ ∃ old, l.held = some old ∧ h = old.merge n)) ∨
    (l.raise n = { l with outbox := l.outbox.map (OutFrame.mergeInto n) } ∧
        l.outbox.any (OutFrame.hasKind n.kind) = true) ∨
    (l.raise n = { l with outbox := l.outbox ++ [.notice n] } ∧ l.outbox.any (OutFrame.hasKind n.kind) = false ∧
        (l.transmitting.map (OutFrame.hasKind n.kind)).getD false = false) := by
  have hk : ∀ old : Notice, (old.merge n).kind = n.kind := by
    intro old; cases old <;> cases n <;> rfl
  unfold Link.raise
  split
  · next ht =>
    left
    split
    · exact ⟨n, rfl, rfl, ht, .inl rfl⟩
    · next old ho => exact ⟨old.merge n, rfl, hk old, ht, .inr ⟨old, ho, rfl⟩⟩
  · next ht =>
    right
    split
    · next hx => exact .inl ⟨rfl, hx⟩
    · next hx => exact .inr ⟨rfl, by simpa using hx, by simpa using ht⟩

theorem Notice.merge_kind (old n : Notice) : (old.merge n).kind = n.kind := by
  cases old <;> cases n <;> rfl

@[simp] theorem Link.raise_assembler (l : Link) (n : Notice) : (l.raise n).assembler = l.assembler := by
  rcases l.raise_cases n with ⟨h, e, -⟩ | ⟨e, -⟩ | ⟨e, -⟩ <;> rw [e]

@[simp] theorem Link.raise_inbox (l : Link) (n : Notice) : (l.raise n).inbox = l.inbox := by
  rcases l.raise_cases n with ⟨h, e, -⟩ | ⟨e, -⟩ | ⟨e, -⟩ <;> rw [e]

@[simp] theorem Link.raise_transmitting (l : Link) (n : Notice) : (l.raise n).transmitting = l.transmitting := by
  rcases l.raise_cases n with ⟨h, e, -⟩ | ⟨e, -⟩ | ⟨e, -⟩ <;> rw [e]

@[simp] theorem Link.raise_begun (l : Link) (n : Notice) : (l.raise n).begun = l.begun := by
  rcases l.raise_cases n with ⟨h, e, -⟩ | ⟨e, -⟩ | ⟨e, -⟩ <;> rw [e]

theorem OutFrame.isReply_mergeInto (n : Notice) (f : OutFrame) : (f.mergeInto n).isReply = f.isReply := by
  unfold OutFrame.mergeInto
  split
  · split <;> rfl
  · rfl

/-- A raise adds no reply and takes none away. -/
theorem Link.raise_replies (l : Link) (n : Notice) :
    (l.raise n).outbox.countP OutFrame.isReply = l.outbox.countP OutFrame.isReply := by
  have hm : (OutFrame.isReply ∘ OutFrame.mergeInto n) = OutFrame.isReply := by
    funext f; exact f.isReply_mergeInto n
  rcases l.raise_cases n with ⟨h, e, -⟩ | ⟨e, -⟩ | ⟨e, -⟩ <;> rw [e]
  · simp [List.countP_map, hm]
  · simp [List.countP_append, OutFrame.isReply]

@[simp] theorem Link.raise_replyPlacesUsed (l : Link) (n : Notice) : (l.raise n).replyPlacesUsed = l.replyPlacesUsed := by
  simp [Link.replyPlacesUsed, l.raise_replies n]

/-- A raise changes the Link Port alone. -/
theorem State.raise_eq (s : State) (n : Notice) : s.raise n = { s with link := s.link.raise n } := rfl

/-- A reply changes the outbox alone. -/
theorem State.reply_eq (s : State) (r : Reply) :
    s.reply r = { s with link := { s.link with outbox := s.link.outbox ++ [.reply r] } } := rfl

theorem State.reply_eq_replied (s : State) (k tag : Byte) (r : ResultCode) (p : List Byte) :
    s.reply ⟨k, tag, r, p⟩ = s.replied k tag r p := rfl

/-! ### Taking a frame and answering a command -/

theorem State.takeFrame_of_takes {s u : State} {f : HostFrame} (h : Takes s f u) : s.takeFrame f = some u := by
  obtain ⟨hl, hb, hr, rest, hi, rfl⟩ := h
  simp [State.takeFrame, State.mayTake, Link.replyPlaceFree, Config.replyPlaces, hl, hb, hr, hi, State.putLink]

/-- What taking a frame can do (09 R155, log 2): the head leaves the inbox, or the row brought the frame. -/
theorem State.takeFrame_cases {s t : State} {f : HostFrame} (h : s.takeFrame f = some t) :
    s.mayTake = true ∧
      ((s.link.inbox = [] ∧ t = s) ∨ ∃ rest, s.link.inbox = f :: rest ∧ t = s.putLink { s.link with inbox := rest }) := by
  unfold State.takeFrame at h
  split at h
  · next hm =>
    refine ⟨hm, ?_⟩
    split at h
    · next hi => exact .inl ⟨hi, by simpa using h.symm⟩
    · next g rest hi =>
      split at h
      · next hg => exact .inr ⟨rest, hg ▸ hi, by simpa using h.symm⟩
      · cases h
  · cases h

theorem State.command_of_takes {s u : State} {k tag : Byte} {p : List Byte} (owner : State → Answer)
    (h : Takes s ⟨k, tag, p⟩ u) :
    s.command k tag p owner = .next ((owner u).state.replied (replyKind k) tag (owner u).result (owner u).payload) := by
  simp only [State.command, State.takeFrame_of_takes h]
  rfl

/-- What a command row can do: nothing, or the owner's answer on the state without the frame. -/
theorem State.command_cases {s t : State} {k tag : Byte} {p : List Byte} {owner : State → Answer}
    (h : s.command k tag p owner = .next t) :
    (s.takeFrame ⟨k, tag, p⟩ = none ∧ t = s) ∨
      ∃ u, s.takeFrame ⟨k, tag, p⟩ = some u ∧
        t = (owner u).state.reply ⟨replyKind k, tag, (owner u).result, (owner u).payload⟩ := by
  unfold State.command at h
  split at h
  · next hn => exact .inl ⟨hn, by simpa using h.symm⟩
  · next u hu => exact .inr ⟨u, hu, by simpa using h.symm⟩

@[simp] theorem State.check_true (s : State) (r : ResultCode) (k : Answer) : s.check true r k = k := rfl

@[simp] theorem State.check_false (s : State) (r : ResultCode) (k : Answer) : s.check false r k = s.refuse r := rfl

theorem State.check_cases (s : State) (cond : Bool) (r : ResultCode) (k : Answer) :
    (cond = true ∧ s.check cond r k = k) ∨ (cond = false ∧ s.check cond r k = s.refuse r) := by
  cases cond <;> simp

@[simp] theorem State.refuse_state (s : State) (r : ResultCode) : (s.refuse r).state = s := rfl

@[simp] theorem State.refuse_result (s : State) (r : ResultCode) : (s.refuse r).result = r := rfl

@[simp] theorem State.refuse_payload (s : State) (r : ResultCode) : (s.refuse r).payload = [] := rfl

@[simp] theorem State.accept_state (s : State) (p : List Byte) : (s.accept p).state = s := rfl

@[simp] theorem State.accept_result (s : State) (p : List Byte) : (s.accept p).result = .ok := rfl

@[simp] theorem State.accept_payload (s : State) (p : List Byte) : (s.accept p).payload = p := rfl

end Sys2Proof.Machine
end

