-- ==== Sys2Proof/Laws/Speech.lean ====
section
/-! SUPPORT. What the shared operations over the arbiter, the sources and the Cue Timer can do (05, 06, 07). -/

namespace Sys2Proof.Machine

/-! ### Changing the running utterance -/

theorem State.mapRunning_eq (s : State) (f : Running → Running) :
    s.mapRunning f = { s with arbiter := { s.arbiter with running := s.arbiter.running.map f } } := rfl

theorem Running.cutRestore_playing (r : Running) (h : r.state = .playing) :
    r.cutRestore =
      { r with state := .fading .restore 0, utterance := { r.utterance with resume := r.cursor.index } } := by
  simp [Running.cutRestore, Running.beginFade, h]

theorem Running.cutRestore_fading (r : Running) (h : r.state ≠ .playing) : r.cutRestore = r := by
  unfold Running.cutRestore
  split
  · next hp => exact absurd hp h
  · rfl

/-! ### The cut-in test -/

/-- What the cut-in test can do (06 R111): nothing, or the PLAYING utterance begins a fade that restores it. -/
theorem State.cutInTest_cases (s : State) :
    s.cutInTest = s ∨
      ∃ r, s.arbiter.running = some r ∧ r.state = .playing ∧ s.cutInAgainst r.utterance.source = true ∧
        s.cutInTest = { s with arbiter := { s.arbiter with running := some { r with
          state := .fading .restore 0, utterance := { r.utterance with resume := r.cursor.index } } } } := by
  unfold State.cutInTest
  split
  · exact .inl rfl
  · next r hr =>
    split
    · next hc =>
      by_cases hp : r.state = .playing
      · exact .inr ⟨r, hr, hp, hc, by rw [State.mapRunning_eq, hr, Option.map_some, r.cutRestore_playing hp]⟩
      · refine .inl ?_
        rw [State.mapRunning_eq, hr, Option.map_some, r.cutRestore_fading hp, ← hr]
    · exact .inl rfl

/-- The cut-in test changes the arbiter alone. -/
theorem State.cutInTest_eq (s : State) : s.cutInTest = { s with arbiter := s.cutInTest.arbiter } := by
  rcases s.cutInTest_cases with h | ⟨r, hr, hp, -, h⟩ <;> rw [h]

@[simp] theorem State.cutInTest_resetLow (s : State) : s.cutInTest.resetLow = s.resetLow := by rw [s.cutInTest_eq]
@[simp] theorem State.cutInTest_op (s : State) : s.cutInTest.op = s.op := by rw [s.cutInTest_eq]
@[simp] theorem State.cutInTest_scanner (s : State) : s.cutInTest.scanner = s.scanner := by rw [s.cutInTest_eq]
@[simp] theorem State.cutInTest_ring (s : State) : s.cutInTest.ring = s.ring := by rw [s.cutInTest_eq]
@[simp] theorem State.cutInTest_intake (s : State) : s.cutInTest.intake = s.intake := by rw [s.cutInTest_eq]
@[simp] theorem State.cutInTest_cycle (s : State) : s.cutInTest.cycle = s.cycle := by rw [s.cutInTest_eq]
@[simp] theorem State.cutInTest_judge (s : State) : s.cutInTest.judge = s.judge := by rw [s.cutInTest_eq]
@[simp] theorem State.cutInTest_sources (s : State) : s.cutInTest.sources = s.sources := by rw [s.cutInTest_eq]
@[simp] theorem State.cutInTest_cue (s : State) : s.cutInTest.cue = s.cue := by rw [s.cutInTest_eq]
@[simp] theorem State.cutInTest_voice (s : State) : s.cutInTest.voice = s.voice := by rw [s.cutInTest_eq]
@[simp] theorem State.cutInTest_bank (s : State) : s.cutInTest.bank = s.bank := by rw [s.cutInTest_eq]
@[simp] theorem State.cutInTest_link (s : State) : s.cutInTest.link = s.link := by rw [s.cutInTest_eq]
@[simp] theorem State.cutInTest_pending (s : State) : s.cutInTest.pending = s.pending := by rw [s.cutInTest_eq]
@[simp] theorem State.place_cutInTest (s : State) (src : Source) : s.cutInTest.place src = s.place src := by
  simp [State.place]

@[simp] theorem State.cutInTest_settings (s : State) : s.cutInTest.arbiter.settings = s.arbiter.settings := by
  rcases s.cutInTest_cases with h | ⟨r, -, -, -, h⟩ <;> rw [h]
@[simp] theorem State.cutInTest_echoPolicy (s : State) : s.cutInTest.arbiter.echoPolicy = s.arbiter.echoPolicy := by
  rcases s.cutInTest_cases with h | ⟨r, -, -, -, h⟩ <;> rw [h]
@[simp] theorem State.cutInTest_lowMark (s : State) : s.cutInTest.arbiter.lowMark = s.arbiter.lowMark := by
  rcases s.cutInTest_cases with h | ⟨r, -, -, -, h⟩ <;> rw [h]

theorem State.cutInTest_idle (s : State) (h : s.arbiter.running = none) : s.cutInTest = s := by
  simp [State.cutInTest, h]

theorem State.cutInTest_of_fading (s : State) (r : Running) (h : s.arbiter.running = some r) (hf : r.state ≠ .playing) :
    s.cutInTest = s := by
  rcases s.cutInTest_cases with e | ⟨r', hr, hp, -⟩
  · exact e
  · rw [h] at hr; cases hr; exact absurd hp hf

/-- The cut-in test leaves nothing for a second one. -/
@[simp] theorem State.cutInTest_twice (s : State) : s.cutInTest.cutInTest = s.cutInTest := by
  rcases s.cutInTest_cases with h | ⟨r, -, -, -, h⟩
  · rw [h, h]
  · rw [h]
    exact State.cutInTest_of_fading _ _ rfl (by simp)

/-- The test looks at who participates and at the arbiter. -/
theorem State.cutInTest_arbiter_of {s t : State} (hp : ∀ c, s.participates c = t.participates c) (ha : s.arbiter = t.arbiter) :
    s.cutInTest.arbiter = t.cutInTest.arbiter := by
  have hc : ∀ src, s.cutInAgainst src = t.cutInAgainst src := by
    intro src
    have hf : s.participates = t.participates := funext hp
    unfold State.cutInAgainst State.level
    rw [hf, ha]
  unfold State.cutInTest
  rw [ha]
  split
  · exact ha
  · next r hr =>
    rw [hc]
    split
    · simp only [State.mapRunning, State.putArbiter, ha]
    · exact ha

/-- Who participates is read from the operating state, the lesson state, the Cue Timer, the places and the arbiter. -/
theorem State.participates_congr {s t : State} (h1 : s.op = t.op) (h2 : s.cycle.lesson = t.cycle.lesson) (h3 : s.cue = t.cue)
    (h4 : s.sources.places = t.sources.places) (h5 : s.arbiter = t.arbiter) (c : Source) :
    s.participates c = t.participates c := by
  unfold State.participates State.eligible State.holds State.lockOn State.level
  rw [h1, h2, h3, h4, h5]

/-- What the test looks at: the operating state, the lesson state, the Cue Timer, the places and the arbiter. -/
theorem State.cutInTest_arbiter_congr {s t : State} (h1 : s.op = t.op) (h2 : s.cycle.lesson = t.cycle.lesson)
    (h3 : s.cue = t.cue) (h4 : s.sources.places = t.sources.places) (h5 : s.arbiter = t.arbiter) :
    s.cutInTest.arbiter = t.cutInTest.arbiter :=
  State.cutInTest_arbiter_of (State.participates_congr h1 h2 h3 h4 h5) h5

/-! ### Arrivals -/

/-- An arrival (06 R111): the utterance joins the tail of its source's pending place, and the cut-in test is made. -/
theorem State.arrive_eq (s : State) (u : Utterance) :
    s.arrive u =
      (s.putPlace u.source { s.place u.source with pending := (s.place u.source).pending ++ [u] }).cutInTest := rfl

theorem State.place_arrive_self (s : State) (u : Utterance) :
    (s.arrive u).place u.source =
      { s.place u.source with pending := (s.place u.source).pending ++ [u] } := by
  simp [State.arrive_eq]

theorem State.place_arrive_ne (s : State) (u : Utterance) {src : Source} (h : src ≠ u.source) :
    (s.arrive u).place src = s.place src := by
  simp [State.arrive_eq, State.place_putPlace_ne _ _ h]

@[simp] theorem State.arrive_phrases (s : State) (u : Utterance) :
    (s.arrive u).sources.phrases = s.sources.phrases := by simp [State.arrive_eq]
@[simp] theorem State.arrive_resetLow (s : State) (u : Utterance) : (s.arrive u).resetLow = s.resetLow := by
  simp [State.arrive_eq]
@[simp] theorem State.arrive_op (s : State) (u : Utterance) : (s.arrive u).op = s.op := by simp [State.arrive_eq]
@[simp] theorem State.arrive_scanner (s : State) (u : Utterance) : (s.arrive u).scanner = s.scanner := by
  simp [State.arrive_eq]
@[simp] theorem State.arrive_ring (s : State) (u : Utterance) : (s.arrive u).ring = s.ring := by simp [State.arrive_eq]
@[simp] theorem State.arrive_intake (s : State) (u : Utterance) : (s.arrive u).intake = s.intake := by
  simp [State.arrive_eq]
@[simp] theorem State.arrive_cycle (s : State) (u : Utterance) : (s.arrive u).cycle = s.cycle := by
  simp [State.arrive_eq]
@[simp] theorem State.arrive_judge (s : State) (u : Utterance) : (s.arrive u).judge = s.judge := by
  simp [State.arrive_eq]
@[simp] theorem State.arrive_cue (s : State) (u : Utterance) : (s.arrive u).cue = s.cue := by simp [State.arrive_eq]
@[simp] theorem State.arrive_voice (s : State) (u : Utterance) : (s.arrive u).voice = s.voice := by
  simp [State.arrive_eq]
@[simp] theorem State.arrive_bank (s : State) (u : Utterance) : (s.arrive u).bank = s.bank := by simp [State.arrive_eq]
@[simp] theorem State.arrive_link (s : State) (u : Utterance) : (s.arrive u).link = s.link := by simp [State.arrive_eq]
@[simp] theorem State.arrive_pending (s : State) (u : Utterance) : (s.arrive u).pending = s.pending := by
  simp [State.arrive_eq]

/-! ### Loads and stops of the Cue Timer -/

/-- A load (07 R125), with the cut-in test. -/
theorem State.cueLoad_eq (s : State) (n : Nat) : s.cueLoad n = (s.putCue (s.cue.loaded n)).cutInTest := rfl

/-- A stop (07 R126), with the cut-in test. -/
theorem State.cueStop_eq (s : State) : s.cueStop = (s.putCue s.cue.stopped).cutInTest := rfl

@[simp] theorem State.cueLoad_resetLow (s : State) (n : Nat) : (s.cueLoad n).resetLow = s.resetLow := by simp [State.cueLoad_eq]
@[simp] theorem State.cueLoad_op (s : State) (n : Nat) : (s.cueLoad n).op = s.op := by simp [State.cueLoad_eq]
@[simp] theorem State.cueLoad_scanner (s : State) (n : Nat) : (s.cueLoad n).scanner = s.scanner := by simp [State.cueLoad_eq]
@[simp] theorem State.cueLoad_ring (s : State) (n : Nat) : (s.cueLoad n).ring = s.ring := by simp [State.cueLoad_eq]
@[simp] theorem State.cueLoad_intake (s : State) (n : Nat) : (s.cueLoad n).intake = s.intake := by simp [State.cueLoad_eq]
@[simp] theorem State.cueLoad_cycle (s : State) (n : Nat) : (s.cueLoad n).cycle = s.cycle := by simp [State.cueLoad_eq]
@[simp] theorem State.cueLoad_judge (s : State) (n : Nat) : (s.cueLoad n).judge = s.judge := by simp [State.cueLoad_eq]
@[simp] theorem State.cueLoad_sources (s : State) (n : Nat) : (s.cueLoad n).sources = s.sources := by simp [State.cueLoad_eq]
@[simp] theorem State.cueLoad_voice (s : State) (n : Nat) : (s.cueLoad n).voice = s.voice := by simp [State.cueLoad_eq]
@[simp] theorem State.cueLoad_bank (s : State) (n : Nat) : (s.cueLoad n).bank = s.bank := by simp [State.cueLoad_eq]
@[simp] theorem State.cueLoad_link (s : State) (n : Nat) : (s.cueLoad n).link = s.link := by simp [State.cueLoad_eq]
@[simp] theorem State.cueLoad_pending (s : State) (n : Nat) : (s.cueLoad n).pending = s.pending := by simp [State.cueLoad_eq]
@[simp] theorem State.cueLoad_cue (s : State) (n : Nat) : (s.cueLoad n).cue = s.cue.loaded n := by
  simp [State.cueLoad_eq]
@[simp] theorem State.place_cueLoad (s : State) (n : Nat) (src : Source) : (s.cueLoad n).place src = s.place src := by
  simp [State.place]

@[simp] theorem State.cueStop_resetLow (s : State) : (s.cueStop).resetLow = s.resetLow := by simp [State.cueStop_eq]
@[simp] theorem State.cueStop_op (s : State) : (s.cueStop).op = s.op := by simp [State.cueStop_eq]
@[simp] theorem State.cueStop_scanner (s : State) : (s.cueStop).scanner = s.scanner := by simp [State.cueStop_eq]
@[simp] theorem State.cueStop_ring (s : State) : (s.cueStop).ring = s.ring := by simp [State.cueStop_eq]
@[simp] theorem State.cueStop_intake (s : State) : (s.cueStop).intake = s.intake := by simp [State.cueStop_eq]
@[simp] theorem State.cueStop_cycle (s : State) : (s.cueStop).cycle = s.cycle := by simp [State.cueStop_eq]
@[simp] theorem State.cueStop_judge (s : State) : (s.cueStop).judge = s.judge := by simp [State.cueStop_eq]
@[simp] theorem State.cueStop_sources (s : State) : (s.cueStop).sources = s.sources := by simp [State.cueStop_eq]
@[simp] theorem State.cueStop_voice (s : State) : (s.cueStop).voice = s.voice := by simp [State.cueStop_eq]
@[simp] theorem State.cueStop_bank (s : State) : (s.cueStop).bank = s.bank := by simp [State.cueStop_eq]
@[simp] theorem State.cueStop_link (s : State) : (s.cueStop).link = s.link := by simp [State.cueStop_eq]
@[simp] theorem State.cueStop_pending (s : State) : (s.cueStop).pending = s.pending := by simp [State.cueStop_eq]
@[simp] theorem State.cueStop_cue (s : State) : s.cueStop.cue = s.cue.stopped := by simp [State.cueStop_eq]
@[simp] theorem State.place_cueStop (s : State) (src : Source) : s.cueStop.place src = s.place src := by
  simp [State.place]

/-! ### The lesson sweep -/

@[simp] theorem State.sweep_resetLow (s : State) : (s.sweep).resetLow = s.resetLow := rfl
@[simp] theorem State.sweep_op (s : State) : (s.sweep).op = s.op := rfl
@[simp] theorem State.sweep_scanner (s : State) : (s.sweep).scanner = s.scanner := rfl
@[simp] theorem State.sweep_ring (s : State) : (s.sweep).ring = s.ring := rfl
@[simp] theorem State.sweep_intake (s : State) : (s.sweep).intake = s.intake := rfl
@[simp] theorem State.sweep_cycle (s : State) : (s.sweep).cycle = s.cycle := rfl
@[simp] theorem State.sweep_judge (s : State) : (s.sweep).judge = s.judge := rfl
@[simp] theorem State.sweep_cue (s : State) : (s.sweep).cue = s.cue := rfl
@[simp] theorem State.sweep_voice (s : State) : (s.sweep).voice = s.voice := rfl
@[simp] theorem State.sweep_bank (s : State) : (s.sweep).bank = s.bank := rfl
@[simp] theorem State.sweep_link (s : State) : (s.sweep).link = s.link := rfl
@[simp] theorem State.sweep_pending (s : State) : (s.sweep).pending = s.pending := rfl

@[simp] theorem State.sweep_phrases (s : State) : s.sweep.sources.phrases = s.sources.phrases := rfl

@[simp] theorem State.place_sweep (s : State) (src : Source) :
    s.sweep.place src = if src.isLesson = true then ⟨[], none⟩ else s.place src :=
  PerSource.get_sweepLesson _ _

theorem Running.cutDiscard_state_stopped (r : Running) : (r.cutDiscard .discardStopped).state = r.state.swept := by
  unfold Running.cutDiscard
  split <;> simp_all [RunState.swept, Running.beginFade]

theorem Running.cutDiscard_utterance (r : Running) (k : FadeKind) (hk : k ≠ .restore) :
    (r.cutDiscard k).utterance = r.utterance := by
  unfold Running.cutDiscard Running.beginFade
  split
  · cases k <;> first | rfl | exact absurd rfl hk
  · rfl
  · rfl
  · rfl

theorem Running.cutDiscard_cursor (r : Running) (k : FadeKind) : (r.cutDiscard k).cursor = r.cursor := by
  unfold Running.cutDiscard Running.beginFade
  split
  · cases k <;> rfl
  · rfl
  · rfl
  · rfl

theorem Running.sweep_eq (r : Running) :
    r.sweep = if r.utterance.source.isLesson = true then { r with state := r.state.swept } else r := by
  unfold Running.sweep
  split
  · have h1 := r.cutDiscard_state_stopped
    have h2 := r.cutDiscard_utterance .discardStopped (by simp)
    have h3 := r.cutDiscard_cursor .discardStopped
    generalize r.cutDiscard .discardStopped = r' at h1 h2 h3
    cases r'; simp_all
  · rfl

@[simp] theorem State.sweep_arbiter (s : State) : s.sweep.arbiter = s.arbiter.lessonSwept := by
  have h : Running.sweep = fun r => if r.utterance.source.isLesson = true then { r with state := r.state.swept } else r :=
    funext Running.sweep_eq
  show { s.arbiter with running := s.arbiter.running.map Running.sweep } = _
  rw [h]; rfl

/-- The lesson sweep (03 R49). -/
theorem State.sweep_spec (s : State) :
    SweptPlaces s s.sweep ∧ s.sweep.arbiter = s.arbiter.lessonSwept ∧ SameBut [.sources, .arbiter] s s.sweep := by
  refine ⟨⟨rfl, rfl, rfl, fun src h => by simp [h]⟩, s.sweep_arbiter, rfl, rfl, ?_⟩
  intro b hb
  cases b <;> first | rfl | simp at hb

/-- A sweep with the cut-in test made after it, whatever else has changed. -/
theorem SweptRunning.of_test {s c t : State} (hc : c.arbiter = s.arbiter.lessonSwept) (ht : t.arbiter = c.cutInTest.arbiter)
    (hp : ∀ src, c.participates src = ({ t with arbiter := c.arbiter } : State).participates src) : SweptRunning s t := by
  unfold SweptRunning
  rw [ht, ← hc]
  exact State.cutInTest_arbiter_of hp rfl

/-! ### The end of an utterance -/

/-- The running place empties (06 R117, 08 R145). -/
theorem State.vacate_eq (s : State) : s.vacate = s.vacated := by
  cases h : s.voice.amp <;>
    simp [State.vacate, State.vacated, State.putArbiter, State.putVoice, Amp.release, Config.silenceCode, h]

end Sys2Proof.Machine
end

