-- ==== Sys2Proof/Laws/Cycle.lean ====
section
/-! SUPPORT. What the word cycle's shared operations can do (03 R52, R58, R59), what the Attempt's clearing does (02 R18, R20),
and what reaching items can change (08 R142). -/

namespace Sys2Proof.Machine

/-- The Attempt is cleared with its flag and the letter hold (02 R18, R20). -/
theorem State.clearAttempt_eq (s : State) :
    s.clearAttempt =
      { s with intake := { s.intake with attempt := [], attemptFull := false, letterHold := false } } := rfl

@[simp] theorem State.clearAttempt_resetLow (s : State) : (s.clearAttempt).resetLow = s.resetLow := rfl
@[simp] theorem State.clearAttempt_op (s : State) : (s.clearAttempt).op = s.op := rfl
@[simp] theorem State.clearAttempt_scanner (s : State) : (s.clearAttempt).scanner = s.scanner := rfl
@[simp] theorem State.clearAttempt_ring (s : State) : (s.clearAttempt).ring = s.ring := rfl
@[simp] theorem State.clearAttempt_cycle (s : State) : (s.clearAttempt).cycle = s.cycle := rfl
@[simp] theorem State.clearAttempt_judge (s : State) : (s.clearAttempt).judge = s.judge := rfl
@[simp] theorem State.clearAttempt_sources (s : State) : (s.clearAttempt).sources = s.sources := rfl
@[simp] theorem State.clearAttempt_arbiter (s : State) : (s.clearAttempt).arbiter = s.arbiter := rfl
@[simp] theorem State.clearAttempt_cue (s : State) : (s.clearAttempt).cue = s.cue := rfl
@[simp] theorem State.clearAttempt_voice (s : State) : (s.clearAttempt).voice = s.voice := rfl
@[simp] theorem State.clearAttempt_bank (s : State) : (s.clearAttempt).bank = s.bank := rfl
@[simp] theorem State.clearAttempt_link (s : State) : (s.clearAttempt).link = s.link := rfl
@[simp] theorem State.clearAttempt_pending (s : State) : (s.clearAttempt).pending = s.pending := rfl
@[simp] theorem State.place_clearAttempt (s : State) (src : Source) : s.clearAttempt.place src = s.place src := rfl

theorem State.mapResult_eq (s : State) (i : Nat) (f : ResultRecord → ResultRecord) :
    s.mapResult i f = { s with cycle := { s.cycle with results := s.cycle.results.modify i f } } := rfl

/-- A word begins (03 R52). -/
theorem State.wordBegin_spec (s : State) (i : Nat) : WordBegan s (s.wordBegin i) i := by
  have hne : ∀ src : Source, src ≠ .word → (s.wordBegin i).place src =
      if src.isLesson = true then ⟨[], none⟩ else s.place src := by
    intro src h
    simp [State.wordBegin, State.place_arrive_ne, compose, h]
  refine ⟨?_, ?_, ?_, ?_, hne .now (by simp), hne .queue (by simp), ?_, hne .echo (by simp), hne .verdict (by simp),
    hne .cue (by simp), ?_, ?_, ?_, ?_⟩
  · simp [State.wordBegin, ResultRecord.begun, ResultRecord.clear]
  · simp [State.wordBegin, CueTimer.stopped]
  · simp [State.wordBegin, State.clearAttempt]
  · simp [State.wordBegin]
  · exact (State.place_arrive_self _ (compose .word .wordPrompt _)).trans
      (by simp [compose, Source.isLesson, partUtterance, State.phrase, State.phraseItem, Phrase.slot])
  · have h0 : (s.putCycle { s.cycle with
          index := i, results := s.cycle.results.set i ResultRecord.begun }).cueStop.arbiter =
        ({ s with cue := s.cue.stopped } : State).cutInTest.arbiter :=
      State.cutInTest_arbiter_congr rfl rfl rfl rfl rfl
    refine SweptRunning.of_test (c := State.putPlace _ .word _) ?_ rfl ?_
    · exact (State.sweep_arbiter _).trans (congrArg Arbiter.lessonSwept h0)
    · exact State.participates_congr (by simp [State.wordBegin]) (by simp [State.wordBegin]) (by simp [State.wordBegin])
        (by simp [State.wordBegin, State.arrive_eq]; rfl) rfl
  · simp [State.wordBegin]
  · simp [State.wordBegin]
  · intro b hb
    cases b <;> first | (simp at hb; done) | simp [Block.same, State.wordBegin]

/-- The lesson ends past its last word (03 R58, R59). -/
theorem State.lessonFinish_spec (s : State) : LessonEnded s s.lessonFinish := by
  have hp : ∀ src : Source, s.lessonFinish.place src = if src.isLesson = true then ⟨[], none⟩ else s.place src := by
    intro src
    simp [State.lessonFinish, State.raise]
  refine ⟨?_, ?_, ⟨?_, hp .now, hp .queue, fun src h => by simp [hp, h]⟩, ?_, ?_, ?_, ?_, ?_⟩
  · simp [State.lessonFinish, State.raise]
  · simp [State.lessonFinish, State.raise, CueTimer.stopped]
  · simp [State.lessonFinish, State.raise]
  · refine SweptRunning.of_test (c := s.sweep.putCue s.sweep.cue.stopped) s.sweep_arbiter rfl ?_
    intro src
    cases src <;>
      simp [State.participates, State.eligible, State.holds, State.lockOn, State.level, State.lessonFinish, State.raise,
        State.sweep, State.mapRunning, Source.isLesson, PerSource.sweepLesson, PerSource.get, CueTimer.stopped] <;> rfl
  · simp [State.lessonFinish, State.raise, lessonEndNotice, countResults, totalTries]
  · simp [State.lessonFinish, State.raise]
  · simp [State.lessonFinish, State.raise]
  · intro b hb
    cases b <;> first | (simp at hb; done) | simp [Block.same, State.lessonFinish, State.raise]

/-- The word advances (03 R58): the next word begins, or the lesson ends. -/
theorem State.advance_spec (s : State) :
    (s.cycle.index + 1 < s.cycle.words.length ∧ WordBegan s s.advance (s.cycle.index + 1)) ∨
      (s.cycle.words.length ≤ s.cycle.index + 1 ∧ LessonEnded s s.advance) := by
  unfold State.advance
  split
  · next h => exact .inl ⟨h, s.wordBegin_spec _⟩
  · next h => exact .inr ⟨by omega, s.lessonFinish_spec⟩

/-- What reaching items can change (08 R140, R142): the read command of the Bank Reader, and FAULT notices. -/
theorem State.reach_eq (index : Nat) (previous : Option ItemClass) (items : List Item) (s : State) :
    ∃ spi link, (s.reach index previous items).1 = { s with bank := { s.bank with spi := spi }, link := link } ∧
      link.assembler = s.link.assembler ∧ link.inbox = s.link.inbox ∧ link.transmitting = s.link.transmitting ∧
      link.begun = s.link.begun ∧ link.replyPlacesUsed = s.link.replyPlacesUsed := by
  induction items generalizing index previous s with
  | nil => exact ⟨s.bank.spi, s.link, rfl, rfl, rfl, rfl, rfl, rfl⟩
  | cons item rest ih =>
    unfold State.reach
    split
    · exact ⟨s.bank.spi, s.link, rfl, rfl, rfl, rfl, rfl, rfl⟩
    · exact ih _ _ s
    · next k _ =>
      have he : ∃ spi, s.readEntry (k + 1) = { s with bank := { s.bank with spi := spi } } := by
        unfold State.readEntry
        split
        · exact ⟨_, rfl⟩
        · exact ⟨s.bank.spi, rfl⟩
      obtain ⟨spi, he⟩ := he
      simp only [he]
      split
      · obtain ⟨spi', link, e, h1, h2, h3, h4, h5⟩ := ih (index + 1) previous
          (State.raise { s with bank := { s.bank with spi := spi } } (.fault (k + 1) 1))
        refine ⟨spi', link, by rw [e]; rfl, ?_⟩
        simp only [State.raise_eq, Link.raise_assembler, Link.raise_inbox, Link.raise_transmitting, Link.raise_begun,
          Link.raise_replyPlacesUsed] at h1 h2 h3 h4 h5
        exact ⟨h1, h2, h3, h4, h5⟩
      · split
        · exact ⟨spi, s.link, rfl, rfl, rfl, rfl, rfl, rfl⟩
        · split
          · exact ⟨_, s.link, rfl, rfl, rfl, rfl, rfl, rfl⟩
          · obtain ⟨spi', link, e, h⟩ := ih (index + 1) (some item.cls) { s with bank := { s.bank with spi := spi } }
            exact ⟨spi', link, by rw [e], h⟩

end Sys2Proof.Machine
end

