-- ==== Sys2Proof/Laws/PerInstr.lean ====
section
/-! SUPPORT. The frame of every command row, one lemma for each row of the table: a well-formed row's frame fits the link
(09 R151), and its kind code names a command unless the row is UNKNOWN_COMMAND (09 R156, 11 R178). -/

/-- What is said of one row. -/
def Sys2Proof.Laws.FrameFits.Statement (c : Sys2Proof.Instr) : Prop :=
  ∀ (k t : Sys2Proof.Byte) (p : List Sys2Proof.Byte), c.hostFrame = some (k, t, p) → c.wf = true →
    p.length ≤ 248 ∧ ((∀ k' t' p', c ≠ .unknownCommand k' t' p') → Sys2Proof.knownKind k = true)

namespace Sys2Proof.Laws

/-- A row that is no host command has no frame. -/
theorem frameFits_of_none {c : Instr} (h : c.hostFrame = none) : FrameFits.Statement c := by
  intro k t p hc
  rw [h] at hc
  cases hc

/-- A row whose well-formedness asks that the payload fits, under a kind code of a command. -/
theorem frameFits_of_some {c : Instr} {k t : Byte} {p : List Byte} (h : c.hostFrame = some (k, t, p))
    (hw : c.wf = true → payloadFits p = true) (hk : knownKind k = true) : FrameFits.Statement c := by
  intro k' t' p' hc hcw
  rw [h] at hc
  cases hc
  exact ⟨of_decide_eq_true (hw hcw), fun _ => hk⟩

theorem FrameFits.pinReset : FrameFits.Statement .pinReset :=
  frameFits_of_none rfl

theorem FrameFits.resetnRelease : FrameFits.Statement .resetnRelease :=
  frameFits_of_none rfl

theorem FrameFits.scan (raw : BitVec 64) : FrameFits.Statement (.scan raw) :=
  frameFits_of_none rfl

theorem FrameFits.pressIntervalComplete (position : Nat) :
    FrameFits.Statement (.pressIntervalComplete position) :=
  frameFits_of_none rfl

theorem FrameFits.releaseIntervalComplete (position : Nat) :
    FrameFits.Statement (.releaseIntervalComplete position) :=
  frameFits_of_none rfl

theorem FrameFits.wakingPress : FrameFits.Statement .wakingPress :=
  frameFits_of_none rfl

theorem FrameFits.takePass : FrameFits.Statement .takePass :=
  frameFits_of_none rfl

theorem FrameFits.discardHead : FrameFits.Statement .discardHead :=
  frameFits_of_none rfl

theorem FrameFits.takeLetter : FrameFits.Statement .takeLetter :=
  frameFits_of_none rfl

theorem FrameFits.takeRubout : FrameFits.Statement .takeRubout :=
  frameFits_of_none rfl

theorem FrameFits.takeGo : FrameFits.Statement .takeGo :=
  frameFits_of_none rfl

theorem FrameFits.takeSpace : FrameFits.Statement .takeSpace :=
  frameFits_of_none rfl

theorem FrameFits.takeHear : FrameFits.Statement .takeHear :=
  frameFits_of_none rfl

theorem FrameFits.takeHint : FrameFits.Statement .takeHint :=
  frameFits_of_none rfl

theorem FrameFits.judgingComplete : FrameFits.Statement .judgingComplete :=
  frameFits_of_none rfl

theorem FrameFits.utteranceStart : FrameFits.Statement .utteranceStart :=
  frameFits_of_none rfl

theorem FrameFits.stageEnd : FrameFits.Statement .stageEnd :=
  frameFits_of_none rfl

theorem FrameFits.fadeEnd : FrameFits.Statement .fadeEnd :=
  frameFits_of_none rfl

theorem FrameFits.cueDecrement : FrameFits.Statement .cueDecrement :=
  frameFits_of_none rfl

theorem FrameFits.cueExpiry : FrameFits.Statement .cueExpiry :=
  frameFits_of_none rfl

theorem FrameFits.ampHoldEnd : FrameFits.Statement .ampHoldEnd :=
  frameFits_of_none rfl

theorem FrameFits.frameReceived (byte : Byte) : FrameFits.Statement (.frameReceived byte) :=
  frameFits_of_none rfl

theorem FrameFits.interByteTimeout : FrameFits.Statement .interByteTimeout :=
  frameFits_of_none rfl

theorem FrameFits.transmitBegin : FrameFits.Statement .transmitBegin :=
  frameFits_of_none rfl

theorem FrameFits.transmitComplete : FrameFits.Statement .transmitComplete :=
  frameFits_of_none rfl

theorem FrameFits.unknownCommand (kind tag : Byte) (payload : List Byte) :
    FrameFits.Statement (.unknownCommand kind tag payload) := by
  intro k' t' p' hc hw
  cases hc
  simp only [Instr.wf, Bool.and_eq_true] at hw
  exact ⟨of_decide_eq_true hw.2, fun h => absurd rfl (h _ _ _)⟩

theorem FrameFits.status (tag : Byte) (payload : List Byte) : FrameFits.Statement (.status tag payload) :=
  frameFits_of_some rfl id (by decide)

theorem FrameFits.begin (tag : Byte) (payload : List Byte) : FrameFits.Statement (.begin tag payload) :=
  frameFits_of_some rfl id (by decide)

theorem FrameFits.bankCheckComplete : FrameFits.Statement .bankCheckComplete :=
  frameFits_of_none rfl

theorem FrameFits.reset (tag : Byte) (payload : List Byte) : FrameFits.Statement (.reset tag payload) :=
  frameFits_of_some rfl id (by decide)

theorem FrameFits.doze (tag : Byte) (payload : List Byte) : FrameFits.Statement (.doze tag payload) :=
  frameFits_of_some rfl id (by decide)

theorem FrameFits.wake (tag : Byte) (payload : List Byte) : FrameFits.Statement (.wake tag payload) :=
  frameFits_of_some rfl id (by decide)

theorem FrameFits.setKeys (tag : Byte) (payload : List Byte) : FrameFits.Statement (.setKeys tag payload) :=
  frameFits_of_some rfl id (by decide)

theorem FrameFits.setIntake (tag : Byte) (payload : List Byte) :
    FrameFits.Statement (.setIntake tag payload) :=
  frameFits_of_some rfl id (by decide)

theorem FrameFits.setLetters (tag : Byte) (payload : List Byte) :
    FrameFits.Statement (.setLetters tag payload) :=
  frameFits_of_some rfl id (by decide)

theorem FrameFits.setPhrases (tag : Byte) (payload : List Byte) :
    FrameFits.Statement (.setPhrases tag payload) :=
  frameFits_of_some rfl id (by decide)

theorem FrameFits.setPairs (tag : Byte) (payload : List Byte) : FrameFits.Statement (.setPairs tag payload) :=
  frameFits_of_some rfl id (by decide)

theorem FrameFits.setSources (tag : Byte) (payload : List Byte) :
    FrameFits.Statement (.setSources tag payload) :=
  frameFits_of_some rfl id (by decide)

theorem FrameFits.setCue (tag : Byte) (payload : List Byte) : FrameFits.Statement (.setCue tag payload) :=
  frameFits_of_some rfl id (by decide)

theorem FrameFits.setJudge (tag : Byte) (payload : List Byte) : FrameFits.Statement (.setJudge tag payload) :=
  frameFits_of_some rfl id (by decide)

theorem FrameFits.setVoice (tag : Byte) (payload : List Byte) : FrameFits.Statement (.setVoice tag payload) :=
  frameFits_of_some rfl id (by decide)

theorem FrameFits.loadWords (tag : Byte) (payload : List Byte) :
    FrameFits.Statement (.loadWords tag payload) :=
  frameFits_of_some rfl id (by decide)

theorem FrameFits.clearWords (tag : Byte) (payload : List Byte) :
    FrameFits.Statement (.clearWords tag payload) :=
  frameFits_of_some rfl id (by decide)

theorem FrameFits.start (tag : Byte) (payload : List Byte) : FrameFits.Statement (.start tag payload) :=
  frameFits_of_some rfl id (by decide)

theorem FrameFits.pause (tag : Byte) (payload : List Byte) : FrameFits.Statement (.pause tag payload) :=
  frameFits_of_some rfl id (by decide)

theorem FrameFits.resume (tag : Byte) (payload : List Byte) : FrameFits.Statement (.resume tag payload) :=
  frameFits_of_some rfl id (by decide)

theorem FrameFits.stop (tag : Byte) (payload : List Byte) : FrameFits.Statement (.stop tag payload) :=
  frameFits_of_some rfl id (by decide)

theorem FrameFits.goto (tag : Byte) (payload : List Byte) : FrameFits.Statement (.goto tag payload) :=
  frameFits_of_some rfl id (by decide)

theorem FrameFits.releaseLetter (tag : Byte) (payload : List Byte) :
    FrameFits.Statement (.releaseLetter tag payload) :=
  frameFits_of_some rfl (fun h => by simp only [Instr.wf, Bool.and_eq_true] at h; exact h.2) (by decide)

theorem FrameFits.releasePass (tag : Byte) (payload : List Byte) :
    FrameFits.Statement (.releasePass tag payload) :=
  frameFits_of_some rfl (fun h => by simp only [Instr.wf, Bool.and_eq_true] at h; exact h.2) (by decide)

theorem FrameFits.releaseWord (tag : Byte) (payload : List Byte) :
    FrameFits.Statement (.releaseWord tag payload) :=
  frameFits_of_some rfl (fun h => by simp only [Instr.wf, Bool.and_eq_true] at h; exact h.2) (by decide)

theorem FrameFits.getAttempt (tag : Byte) (payload : List Byte) :
    FrameFits.Statement (.getAttempt tag payload) :=
  frameFits_of_some rfl id (by decide)

theorem FrameFits.getResults (tag : Byte) (payload : List Byte) :
    FrameFits.Statement (.getResults tag payload) :=
  frameFits_of_some rfl id (by decide)

theorem FrameFits.setWindow (tag : Byte) (payload : List Byte) :
    FrameFits.Statement (.setWindow tag payload) :=
  frameFits_of_some rfl id (by decide)

theorem FrameFits.getTally (tag : Byte) (payload : List Byte) : FrameFits.Statement (.getTally tag payload) :=
  frameFits_of_some rfl id (by decide)

theorem FrameFits.say (tag : Byte) (payload : List Byte) : FrameFits.Statement (.say tag payload) :=
  frameFits_of_some rfl id (by decide)

theorem FrameFits.sayNow (tag : Byte) (payload : List Byte) : FrameFits.Statement (.sayNow tag payload) :=
  frameFits_of_some rfl id (by decide)

theorem FrameFits.cut (tag : Byte) (payload : List Byte) : FrameFits.Statement (.cut tag payload) :=
  frameFits_of_some rfl id (by decide)

theorem FrameFits.flush (tag : Byte) (payload : List Byte) : FrameFits.Statement (.flush tag payload) :=
  frameFits_of_some rfl id (by decide)

theorem FrameFits.receivedByte (byte : Byte) : FrameFits.Statement (.receivedByte byte) :=
  frameFits_of_none rfl

theorem FrameFits.samplePeriod : FrameFits.Statement .samplePeriod :=
  frameFits_of_none rfl

end Sys2Proof.Laws
end

