-- ==== Sys2Proof/Tests/Slice0.lean ====
section
/-! SUPPORT. Tests of the model: the checks of well-formedness, the link's frames, figures worked in the manual, small steps of
each family, and for every statement with hypotheses a concrete state that meets them. -/

namespace Sys2Proof.Tests

open Sys2Proof Sys2Proof.Machine

/-! ### Helpers -/

/-- The state after a step, or reset where the step does not answer one. -/
def after (c : Instr) (s : State) : State :=
  match exec c s with
  | .next t => t
  | .fault _ => State.reset
  | .refused _ => State.reset

/-- The state after several steps. -/
def afterAll (cs : List Instr) (s : State) : State := cs.foldl (fun t c => after c t) s

/-- A flash with these bytes from address 0. -/
def flashOf (bytes : List Nat) : List Host.Cell := bytes.zipIdx.map fun p => (p.2, byteOf p.1)

/-- A bank of one clip: the header, the directory entry (start 21, length 3) and three samples 64, -128, 127. -/
def oneClip : List Host.Cell :=
  flashOf [0x5A, 0x53, 0x42, 0x4B, 1, 0, 24, 0, 0, 0, 0, 0, 0, 0, 0, 0, 21, 0, 0, 3, 0, 64, 0x80, 127]

/-- The part in READY with the bank of one clip and an empty outbox. -/
def ready : State :=
  { State.reset with op := .ready, bank := ⟨true, 1, 24, oneClip, []⟩, link := Link.pinReset }

/-- A word CAT with clips 1 and 0 and two hints. -/
def cat : WordRecord := ⟨[3, 1, 20], 1, 0, 2⟩

/-- A lesson of two words, RUNNING at word 0 in a phase. -/
def lesson (p : Phase) : State :=
  { ready with
    cycle := { ready.cycle with
      words := [cat, ⟨[4, 15, 7], 1, 1, 0⟩], lesson := .running, phase := p
      results := clearResults.set 0 ResultRecord.begun } }

/-- A lesson in phase ANSWERING with one event in the ring. -/
def typing (e : KeyEvent) : State := { lesson .answering with ring := ⟨[e], 0⟩ }

/-- A state with one frame in the inbox. -/
def withFrame (s : State) (k : Byte) (p : List Byte) : State :=
  { s with link := { s.link with inbox := [⟨k, 9, p⟩] } }

/-- That state without the frame. -/
def taken (s : State) : State := { s with link := { s.link with inbox := [] } }

/-- The last frame of the outbox. -/
def lastFrame (s : State) : Option OutFrame := s.link.outbox.getLast?

/-- A clip 1 utterance of a source. -/
def speech (src : Source) (k : UttKind) : Utterance := ⟨src, k, 7, true, [.clip 1], 0⟩

/-- A running utterance at its clip's first sample. -/
def running (u : Utterance) (st : RunState) : Running := ⟨u, st, ⟨0, .clip, 3, 21, 3, none⟩⟩

/-- A state with a running utterance. -/
def speaking (s : State) (r : Running) : State :=
  { s with arbiter := { s.arbiter with running := some r }, voice := { s.voice with amp := .active } }

/-! ### Well-formedness -/

theorem test_wf_position_64_refused : (Instr.pressIntervalComplete 64).wf = false := by decide
theorem test_wf_release_position_64_refused : (Instr.releaseIntervalComplete 64).wf = false := by decide
theorem test_wf_position_63 : (Instr.pressIntervalComplete 63).wf = true := by decide
theorem test_wf_unknown_with_known_kind_refused : (Instr.unknownCommand 0x33 1 []).wf = false := by decide
theorem test_wf_unknown : (Instr.unknownCommand 0x34 1 []).wf = true := by decide
theorem test_wf_payload_249_refused : (Instr.status 1 (List.replicate 249 0)).wf = false := by
  rw [Instr.wf, payloadFits, List.length_replicate]
  rfl
theorem test_wf_payload_248 : (Instr.status 1 (List.replicate 248 0)).wf = true := by
  rw [Instr.wf, payloadFits, List.length_replicate]
  rfl
theorem test_wf_release_row_of_another_target_refused : (Instr.releaseLetter 1 [1]).wf = false := by decide
theorem test_wf_release_word : (Instr.releaseWord 1 [2]).wf = true := by decide
theorem test_table_words_spell_nothing : decodeTableWord 32 5 = none := rfl

/-! ### The link's frames -/

/-- 09 R151's first example: STATUS with tag 5. -/
theorem test_status_frame_on_the_wire : wireFrame [0x01, 0x05] = [0xC3, 0x02, 0x01, 0x05, 0xF8] := by decide
/-- 09 R151's second example: CUT with tag 0x10. -/
theorem test_cut_frame_on_the_wire : wireFrame [0x32, 0x10] = [0xC3, 0x02, 0x32, 0x10, 0xBC] := by decide
theorem test_frame_row : Instr.ofFrame 0x27 4 [1] = .releasePass 4 [1] := by decide
theorem test_frame_row_unknown : Instr.ofFrame 0x19 4 [] = .unknownCommand 0x19 4 [] := by decide

/-- Seven received bytes put a CUT frame into the inbox (09 R152, R154). -/
theorem test_frame_received :
    (afterAll (receiveSteps [0x32, 0x10]) ready).link.inbox = [⟨0x32, 0x10, []⟩] := by decide
theorem test_bad_check_raises_link_error :
    (afterAll [.receivedByte 0xC3, .receivedByte 2, .receivedByte 1, .receivedByte 5, .frameReceived 0xF7] ready).link.outbox =
      [.notice (.linkError .check 1)] := by decide
theorem test_len_251_raises_link_error :
    (afterAll [.receivedByte 0xC3, .frameReceived 251] ready).link.outbox = [.notice (.linkError .len 1)] := by decide
theorem test_inter_byte_timeout :
    (afterAll [.receivedByte 0xC3, .interByteTimeout] ready).link.outbox = [.notice (.linkError .timeout 1)] := by decide
theorem test_third_frame_overflows :
    lastFrame (afterAll (receiveSteps [1, 1] ++ receiveSteps [1, 2] ++ receiveSteps [0x99, 3]) ready) =
      some (.reply ⟨0xFF, 3, .overflow, []⟩) := by decide

/-! ### The Judge (04, the worked cases) -/

/-- The judgement of a case at the threshold 75. -/
def judgedCase (target attempt : List Nat) (rule : MarkRule) (pairs : List (Nat × Nat)) : Judgement :=
  judgementOf ⟨0, 1, attempt, target, rule, pairs⟩ 75

/-- because, becuase. -/
theorem test_judge_swap :
    (judgedCase [2, 5, 3, 1, 21, 19, 5] [2, 5, 3, 21, 1, 19, 5] .strict []).report =
      ⟨0, 1, 93, .close, 1, 2, 0, [.right, .right, .right, .swapped, .swapped, .right, .right]⟩ := by decide
/-- cat, kat with c and k paired. -/
theorem test_judge_near :
    (judgedCase [3, 1, 20] [11, 1, 20] .strict [(3, 11)]).report =
      ⟨0, 1, 83, .close, 1, 1, 0, [.near, .right, .right]⟩ := by decide
/-- see, se. -/
theorem test_judge_missing :
    (judgedCase [19, 5, 5] [19, 5] .strict []).report = ⟨0, 1, 67, .wrong, 2, 1, 0, [.right, .missing, .right]⟩ := by
  decide
/-- cat, cats. -/
theorem test_judge_extra :
    (judgedCase [3, 1, 20] [3, 1, 20, 19] .strict []).report =
      ⟨0, 1, 67, .wrong, 2, 1, 1, [.right, .right, .right]⟩ := by decide
/-- bad, dab with b and d paired. -/
theorem test_judge_two_near :
    (judgedCase [2, 1, 4] [4, 1, 2] .strict [(2, 4)]).report =
      ⟨0, 1, 67, .wrong, 2, 2, 0, [.near, .right, .near]⟩ := by decide
/-- don't, an apostrophe, under SKIP. -/
theorem test_judge_skip :
    (judgedCase [4, 15, 14, 27, 20] [27] .skip []).report =
      ⟨0, 1, 0, .wrong, 8, 4, 0, [.missing, .missing, .missing, .passed, .missing]⟩ := by decide
/-- 04: the scores of lengths 7, 20 and 1. -/
theorem test_scores : scoreOf 4 7 = 71 ∧ scoreOf 3 20 = 93 ∧ scoreOf 1 20 = 98 ∧ scoreOf 1 1 = 50 ∧ scoreOf 2 1 = 0 := by
  decide
theorem test_judging_completes :
    let s := { lesson .judging with
      judge := { ready.judge with working := some ⟨0, 1, [3, 20], [3, 1, 20], .strict, []⟩ } }
    let t := after .judgingComplete s
    t.cycle.phase = .feedback ∧ t.judge.letterErrors = 1 ∧ t.currentResult.last = 67 ∧
      (t.place .verdict).pending.length = 1 := by decide

/-! ### The output code (08, the worked figures) -/

theorem test_play_codes :
    playCode 100 40 = 637 ∧ playCode 127 255 = 1023 ∧ playCode (-1) 48 = 511 ∧ playCode (-3) 32 = 509 ∧
      playCode (-128) 128 = 0 ∧ playCode 127 128 = 1020 := by decide
theorem test_fade_codes : fadeCode 100 40 1 = 633 ∧ fadeCode 100 40 8 = 606 ∧ fadeCode 100 40 32 = 512 := by decide
theorem test_first_sample_of_a_clip :
    (after .samplePeriod (speaking ready (running (speech .queue .host) .playing))).voice.output = 576 := by decide
theorem test_fade_sample :
    let r := running (speech .queue .host) (.fading .restore 0)
    (after .samplePeriod (speaking ready r)).arbiter.running.map Running.state = some (.fading .restore 1) := by decide
/-- 08: LETTER(28) under PER_LETTER with mode SILENT resolves to clip 0, and NAME(28) to its name clip. -/
theorem test_silent_letter :
    let v := { ready.voice with
      letterMap := (List.replicate 28 ⟨.name, 0, 0, 0, 0⟩).set 27 ⟨.silent, 150, 0, 0, 0⟩, echoStyle := .perLetter }
    { ready with voice := v }.resolve (.letter 28) = .clip 0 ∧
      { ready with voice := v }.resolve (.name 28) = .clip 150 := by decide

/-! ### Keys (01, 02) -/

/-- At debounce setting 4 an interval completes at the twentieth scan after it began (01 R3). -/
theorem test_scan_debounces :
    let raw : BitVec 64 := 1#64 <<< 9
    (after (.scan raw) { ready with scanner := { ready.scanner with intervals := [⟨9, 19, false⟩] } }).scanner.intervals =
        [⟨9, 20, true⟩] ∧
      (after (.scan raw) { ready with scanner := { ready.scanner with intervals := [⟨9, 18, false⟩] } }).scanner.intervals =
        [⟨9, 19, false⟩] := by
  decide
/-- A chattering key abandons its interval (01, the worked sequence). -/
theorem test_scan_abandons :
    (after (.scan 0) { ready with scanner := { ready.scanner with intervals := [⟨20, 2, false⟩] } }).scanner.intervals = [] := by
  decide
/-- A PASS key under the pin-reset map makes an event on its press. -/
theorem test_press_makes_an_event :
    (after (.pressIntervalComplete 9) { ready with scanner := { ready.scanner with intervals := [⟨9, 20, true⟩] } }).ring.events =
      [⟨9, .pass, 0, .press⟩] := by decide
theorem test_release_under_both :
    let k := { ready.scanner with held := [⟨9, false⟩], intervals := [⟨9, 20, true⟩], passEdge := .both }
    (after (.releaseIntervalComplete 9) { ready with scanner := k }).ring.events = [⟨9, .pass, 0, .release⟩] := by decide
theorem test_release_of_a_quiet_key :
    let k := { ready.scanner with held := [⟨9, true⟩], intervals := [⟨9, 20, true⟩], passEdge := .both }
    (after (.releaseIntervalComplete 9) { ready with scanner := k }).ring.events = [] := by decide
theorem test_waking_press :
    let k := { ready.scanner with intervals := [⟨3, 20, true⟩, ⟨9, 20, true⟩] }
    let t := after .wakingPress { ready with op := .doze, scanner := k }
    t.op = .ready ∧ lastFrame t = some (.notice (.woke 3)) := by decide
theorem test_take_pass :
    lastFrame (after .takePass (typing ⟨63, .pass, 0, .press⟩)) =
      some (.notice (.keyPass false [⟨63, 0, .press⟩])) := by decide
theorem test_discard_head : (after .discardHead { ready with ring := ⟨[⟨5, .go, 0, .press⟩], 0⟩ }).ring.events = [] := by
  decide
theorem test_take_letter :
    let t := after .takeLetter (typing ⟨9, .letter, 3, .press⟩)
    t.intake.attempt = [3] ∧ t.cue.remaining = 80 ∧ (t.place .echo).pending.length = 1 := by decide
theorem test_take_letter_refused_by_the_guided_check :
    let s := typing ⟨9, .letter, 1, .press⟩
    let t := after .takeLetter
      { s with intake := { s.intake with settings := { s.intake.settings with checkMode := .guided } } }
    t.intake.attempt = [] ∧ t.currentResult.refusals = 1 ∧ t.judge.letterErrors = 1 := by decide
theorem test_take_rubout :
    let s := typing ⟨9, .rubout, 0, .press⟩
    (after .takeRubout { s with intake := { s.intake with attempt := [3, 1] } }).intake.attempt = [3] := by decide
theorem test_take_go :
    let s := typing ⟨58, .go, 0, .press⟩
    let t := after .takeGo { s with intake := { s.intake with attempt := [3, 1] } }
    t.cycle.phase = .judging ∧ t.currentResult.tries = 1 ∧ t.cue.running = false := by decide
theorem test_take_go_with_nothing_typed :
    ((after .takeGo (typing ⟨58, .go, 0, .press⟩)).place .word).pending.map Utterance.kind = [.hearPrompt] := by decide
theorem test_take_space_ignored :
    (after .takeSpace (typing ⟨58, .space, 0, .press⟩)).cycle.phase = .answering := by decide
theorem test_take_hear :
    ((after .takeHear (typing ⟨58, .hear, 0, .press⟩)).place .word).pending.map Utterance.items =
      [[.word, .sentence, .word]] := by decide
/-- 02 R31: the hint for CAT after C speaks A. -/
theorem test_take_hint :
    let s := typing ⟨58, .hint, 0, .press⟩
    let t := after .takeHint { s with intake := { s.intake with attempt := [3] } }
    (t.place .verdict).pending.map Utterance.items = [[.letter 1]] ∧ t.currentResult.hints = 1 := by decide

/-! ### The lesson and the Cue Timer (03, 07) -/

theorem test_load_words :
    let rec_ : List Byte := [3, 3, 1, 20] ++ List.replicate 17 0 ++ [1, 0, 0, 0, 9]
    let t := after (.loadWords 9 (1 :: rec_)) ready
    t.cycle.words = [⟨[3, 1, 20], 1, 0, 3⟩] ∧ t.cycle.lesson = .loaded := by decide
theorem test_clear_words : (after (.clearWords 9 []) (lesson .none)).cycle.words.length = 2 := by decide
theorem test_start :
    let t := after (.start 9 [1]) { lesson .none with cycle := { (lesson .none).cycle with lesson := .loaded } }
    t.cycle.phase = .prompting ∧ t.cycle.index = 1 ∧ (t.place .word).pending.length = 1 := by decide
theorem test_start_refused : lastFrame (after (.start 9 [0]) ready) = some (.reply ⟨0xA2, 9, .state, []⟩) := by decide
theorem test_pause_and_resume :
    (after (.pause 9 []) (lesson .answering)).cycle.lesson = .paused ∧
      (afterAll [.pause 9 [], .resume 9 []] (lesson .answering)).cycle.lesson = .running := by decide
theorem test_stop :
    let t := after (.stop 9 []) (lesson .answering)
    t.cycle.lesson = .loaded ∧ t.currentResult.state = .skipped := by decide
theorem test_goto : (after (.goto 9 [1]) (lesson .answering)).cycle.index = 1 := by decide
theorem test_goto_out_of_range :
    lastFrame (after (.goto 9 [2]) (lesson .answering)) = some (.reply ⟨0xA6, 9, .range, []⟩) := by decide
theorem test_release_word_advances : (after (.releaseWord 9 [2]) (lesson .held)).cycle.index = 1 := by decide
theorem test_release_word_not_held :
    lastFrame (after (.releaseWord 9 [2]) (lesson .answering)) = some (.reply ⟨0xA7, 9, .notHeld, []⟩) := by decide
theorem test_release_letter :
    let s := { ready with intake := { ready.intake with letterHold := true } }
    (after (.releaseLetter 9 [0]) s).intake.letterHold = false := by decide
theorem test_release_pass :
    lastFrame (after (.releasePass 9 [1]) ready) = some (.reply ⟨0xA7, 9, .notHeld, []⟩) := by decide
theorem test_get_results :
    lastFrame (after (.getResults 9 [0, 1]) (lesson .answering)) =
      some (.reply ⟨0xA9, 9, .ok, [2, 0, 1, 1, 0, 0, 0, 0, 0, 0]⟩) := by decide
theorem test_cue_decrement :
    let s := { lesson .answering with cue := { ready.cue with running := true, remaining := 2 } }
    (after .cueDecrement s).cue.remaining = 1 ∧ (afterAll [.cueDecrement, .cueDecrement] s).cue.remaining = 1 := by decide
theorem test_cue_expiry_places_a_cue :
    let s := { lesson .answering with cue := { ready.cue with running := true, remaining := 1 } }
    let t := after .cueExpiry s
    (t.place .cue).pending.length = 1 ∧ t.cue.remaining = 80 ∧ t.cue.stretch = 1 := by decide
theorem test_cue_expiry_at_the_limit :
    let s := { lesson .answering with cue := { ready.cue with running := true, remaining := 1, stretch := 2 } }
    let t := after .cueExpiry s
    t.cue.running = false ∧ lastFrame t = some (.notice (.childIdle 0)) := by decide

/-! ### Settings and queries -/

theorem test_set_keys :
    (after (.setKeys 9 [9, 2, 63, 1, 5]) ready).scanner.keyMap[63]? = some ⟨.letter, 5⟩ ∧
      lastFrame (after (.setKeys 9 [9, 2, 63, 1, 5]) ready) = some (.reply ⟨0x90, 9, .ok, [8]⟩) := by decide
/-- A run past the matrix is RANGE; a wrong size is LENGTH, and STATE while a lesson runs (01 R10). -/
theorem test_set_keys_refused :
    lastFrame (after (.setKeys 9 [4, 0, 63, 1, 5, 1, 6]) ready) = some (.reply ⟨0x90, 9, .range, []⟩) ∧
      lastFrame (after (.setKeys 9 [4]) ready) = some (.reply ⟨0x90, 9, .length, []⟩) ∧
      lastFrame (after (.setKeys 9 [4]) (lesson .answering)) = some (.reply ⟨0x90, 9, .state, []⟩) := by decide
theorem test_set_intake : (after (.setIntake 9 [0, 1, 0, 0, 0, 1]) ready).intake.settings.endHold = true := by decide
theorem test_set_letters :
    (after (.setLetters 9 [28, 3, 1, 0, 2, 0, 3, 0, 9]) ready).voice.letterMap[27]? = some ⟨.silent, 1, 2, 3, 7⟩ := by
  decide
theorem test_set_phrases :
    (after (.setPhrases 9 [1, 0, 2, 0, 3, 0, 4, 0, 5, 0, 6, 0, 7, 0, 8, 1]) ready).sources.phrases =
      [1, 2, 3, 4, 5, 6, 7, 264] := by decide
theorem test_set_pairs :
    (after (.setPairs 9 [3, 3, 11, 11, 3, 2, 4]) ready).judge.pairs = [(3, 11), (2, 4)] := by decide
theorem test_set_sources :
    lastFrame (after (.setSources 9 [0, 1, 1, 0, 1, 0, 2, 0, 7, 0, 3, 0, 2, 20]) ready) =
      some (.reply ⟨0x95, 9, .ok, [0, 1, 1, 2, 3, 3, 15]⟩) := by decide
theorem test_set_cue :
    lastFrame (after (.setCue 9 [0, 0, 0x59, 2, 9]) ready) = some (.reply ⟨0x96, 9, .ok, [1, 0, 0x58, 2, 7]⟩) := by decide
theorem test_set_judge :
    lastFrame (after (.setJudge 9 [49, 8, 1]) ready) = some (.reply ⟨0x97, 9, .ok, [50, 7]⟩) := by decide
theorem test_set_voice :
    (after (.setVoice 9 [255, 1, 2, 3, 2]) (lesson .answering)).voice.gain = 255 := by decide
theorem test_set_window :
    (after (.setWindow 9 [31, 32]) { ready with judge := { ready.judge with exactCount := 5 } }).judge.exactCount = 0 := by
  decide
theorem test_get_tally :
    lastFrame (after (.getTally 9 []) ready) = some (.reply ⟨0xAB, 9, .ok, [0, 32, 0, 0, 0, 0, 0, 0]⟩) := by decide
theorem test_get_attempt :
    (after (.getAttempt 9 []) ready).link.outbox.map (fun f => f.body.length) = [85] := by decide
/-- 10 R171: the 21 bytes of STATUS right after reset. -/
theorem test_status :
    lastFrame (after (.status 5 []) State.reset) =
      some (.reply ⟨0x81, 5, .ok, [0, 0, 0, 0, 0, 0, 0xFF, 0, 0, 0, 0, 0, 0, 0, 0, 0, 0, 0, 0, 0, 0]⟩) := by decide
theorem test_status_with_a_payload :
    lastFrame (after (.status 5 [0]) State.reset) = some (.reply ⟨0x81, 5, .length, []⟩) := by decide
theorem test_unknown_command :
    lastFrame (after (.unknownCommand 0x44 5 [1]) ready) = some (.reply ⟨0xFF, 5, .unknown, []⟩) := by decide

/-! ### Speech (05, 06, 08) -/

theorem test_say : lastFrame (after (.say 9 [1, 1, 1, 1, 0]) ready) = some (.reply ⟨0xB0, 9, .ok, [1]⟩) := by decide
theorem test_say_gap_0_refused : lastFrame (after (.say 9 [1, 1, 6, 0, 0]) ready) = some (.reply ⟨0xB0, 9, .range, []⟩) := by
  decide
theorem test_say_now_occupied :
    lastFrame (afterAll [.sayNow 9 [0, 1, 1, 1, 0], .sayNow 8 [0, 1, 1, 1, 0]] ready) =
      some (.reply ⟨0xB1, 8, .occupied, []⟩) := by decide
theorem test_utterance_start :
    let t := afterAll [.say 9 [1, 1, 1, 1, 0], .utteranceStart] ready
    t.arbiter.running.map Running.cursor = some ⟨0, .clip, 3, 21, 3, none⟩ ∧ t.voice.amp = .active := by decide
theorem test_stage_end_ends_the_utterance :
    let t := afterAll
      [.say 9 [1, 1, 1, 1, 0], .utteranceStart, .samplePeriod, .samplePeriod, .samplePeriod, .stageEnd] ready
    t.arbiter.running = none ∧ t.voice.amp = .holding 0 ∧ lastFrame t = some (.notice (.said false [⟨9, .done⟩])) := by
  decide
theorem test_bad_clip_raises_fault :
    let t := afterAll [.say 9 [0, 1, 1, 2, 0], .utteranceStart] ready
    t.link.outbox.getLast? = some (.notice (.fault 2 1)) ∧ t.arbiter.running = none ∧ t.voice.amp = .holding 0 := by decide
theorem test_cut :
    let s := speaking ready (running (speech .queue .host) .playing)
    lastFrame (after (.cut 9 []) s) = some (.reply ⟨0xB2, 9, .ok, [1, 5, 7]⟩) := by decide
theorem test_fade_end_restores :
    let s := speaking ready (running (speech .queue .host) (.fading .restore 32))
    ((after .fadeEnd s).place .queue).backup.isSome = true ∧ (after .fadeEnd s).voice.output = 512 := by decide
theorem test_fade_end_reports_a_cut :
    let s := speaking ready (running (speech .queue .host) (.fading .discardCut 32))
    lastFrame (after .fadeEnd s) = some (.notice (.said false [⟨7, .cut⟩])) := by decide
theorem test_flush :
    lastFrame (afterAll [.say 9 [1, 1, 1, 1, 0], .flush 8 []] ready) = some (.reply ⟨0xB3, 8, .ok, [1]⟩) := by decide
theorem test_amp_hold_end :
    (after .ampHoldEnd { ready with voice := { ready.voice with amp := .holding 1600 } }).ampHigh = false := by decide
/-- 08 R139 to R141: a clip of 3 samples under a trim of 40 takes no samples, and the LETTER after it takes the letter gap. -/
theorem test_trimmed_clip_is_the_previous_item :
    let s := { ready with voice := { ready.voice with letterMap := List.replicate 28 ⟨.name, 1, 0, 0, 1⟩ } }
    (s.reach 0 none [.letter 1, .clip 0, .word, .letter 2]).2 = some ⟨3, .automaticGap, 1200, 61, 0, some .letterItem⟩ := by
  decide

/-! ### The transmitter, operating states and resets (09, 10) -/

theorem test_transmit :
    let t := after .transmitBegin State.reset
    t.txdFrame = [0xC3, 2, 0x40, 0, 0xBE] ∧ (after .transmitComplete t).attnLow = false := by decide
/-- 01 R13: an overrun that carried 3 leaves 2 of 5 to tell. -/
theorem test_overrun_reduction :
    let s := { ready with ring := ⟨[], 5⟩, link := { ready.link with transmitting := some (.notice (.ringOverrun 3)) } }
    let t := after .transmitComplete s
    t.ring.lost = 2 ∧ t.link.outbox = [.notice (.ringOverrun 2)] := by decide
theorem test_begin_and_its_check :
    let s := { State.reset with bank := ⟨false, 0, 0, oneClip, []⟩ }
    let t := afterAll [.begin 9 [], .bankCheckComplete] s
    t.op = .ready ∧ lastFrame t = some (.reply ⟨0x82, 9, .ok, [1, 0]⟩) := by decide
theorem test_begin_without_a_bank :
    lastFrame (afterAll [.begin 9 [], .bankCheckComplete] State.reset) = some (.reply ⟨0x82, 9, .bankBad, [1]⟩) := by decide
/-- A bank size of 20 is one byte short of a header and one entry (08 R134). -/
theorem test_begin_with_a_short_bank :
    let s := { State.reset with bank := ⟨false, 0, 0, flashWrite oneClip 6 20, []⟩ }
    lastFrame (afterAll [.begin 9 [], .bankCheckComplete] s) = some (.reply ⟨0x82, 9, .bankBad, [3]⟩) := by decide
theorem test_doze_and_wake :
    (after (.doze 9 []) ready).op = .doze ∧ (afterAll [.doze 9 [], .wake 8 []] ready).op = .ready := by decide
theorem test_doze_with_a_key_down :
    let t := after (.doze 9 []) { ready with scanner := { ready.scanner with held := [⟨9, false⟩] } }
    t.op = .ready ∧ lastFrame t = some (.notice (.woke 9)) := by decide
theorem test_reset_command :
    let t := after (.reset 9 []) (lesson .answering)
    t.op = .setup ∧ t.link.outbox = [.reply ⟨0x83, 9, .ok, []⟩, .notice (.resetDone .command)] := by decide
theorem test_pin_reset :
    (after .pinReset (lesson .answering)).attnLow = false ∧
      (afterAll [.pinReset, .resetnRelease] (lesson .answering)).link.outbox = [.notice (.resetDone .pin)] := by decide
theorem test_time_on_an_empty_queue :
    let s := { ready with voice := { ready.voice with amp := .holding 0 } }
    s.passTime.voice.amp = .holding 1 := by decide

/-! ### States that meet the statements' hypotheses -/

theorem takes_frame (s : State) (k : Byte) (p : List Byte) (hl : s.resetLow = false) (hb : s.link.begun = none)
    (hu : s.link.replyPlacesUsed < 4) : Takes (withFrame s k p) ⟨k, 9, p⟩ (taken (withFrame s k p)) :=
  ⟨hl, hb, hu, [], rfl, rfl⟩

/-- With the attempt, the intake settings and the list of a source replaced. -/
def withAttempt (s : State) (a : List Nat) : State := { s with intake := { s.intake with attempt := a } }

def guided (s : State) : State :=
  { s with intake := { s.intake with settings := { s.intake.settings with checkMode := .guided } } }

def withList (s : State) (src : Source) (us : List Utterance) : State := s.putPlace src ⟨us, none⟩

/-- A Cue Timer that counts, with the cues of the stretch. -/
def counting (remaining stretch : Nat) : State :=
  { lesson .answering with cue := { ready.cue with running := true, remaining := remaining, stretch := stretch } }

theorem witness_StepRunsFrontCommand : ∃ (c : Instr) (rest : List Instr) (s : State), s.pending = c :: rest :=
  ⟨.takeGo, [], { ready with pending := [.takeGo] }, rfl⟩

theorem witness_EmptyQueueLetsTimePass :
    (∃ s : State, s.pending = [] ∧ s.resetLow = true) ∧
      ∃ s : State, s.pending = [] ∧ s.resetLow = false ∧ s.timerState = .counting :=
  ⟨⟨{ ready with resetLow := true }, rfl, rfl⟩, ⟨counting 2 0, rfl, rfl, by decide⟩⟩

theorem witness_FramesAndRowsAgree :
    (∃ (c : Instr) (k t : Byte) (p : List Byte), c.hostFrame = some (k, t, p) ∧ c.wf = true ∧ k = 0x27 ∧
      (releaseTarget p).isSome = true) ∧ (∃ p : List Byte, p.length = 248) ∧
    (∃ s : State, s.link.transmitting = none) ∧ ∃ (s : State) (f : OutFrame), s.link.transmitting = some f :=
  ⟨⟨.releaseWord 3 [2], 0x27, 3, [2], rfl, by decide, rfl, by decide⟩, ⟨List.replicate 248 0, List.length_replicate⟩,
    ⟨State.reset, rfl⟩, after .transmitBegin State.reset, .notice (.resetDone .pin), rfl⟩

theorem witness_EmptyInboxRowBringsItsFrame :
    ∃ (c : Instr) (k t : Byte) (p : List Byte) (s : State), c.hostFrame = some (k, t, p) ∧ c.wf = true ∧
      s.mayTake = true ∧ s.link.inbox = [] :=
  ⟨.cut 3 [], 0x32, 3, [], ready, rfl, by decide, by decide, rfl⟩

theorem witness_ResetPinAndItsRelease :
    (∃ s : State, s.resetLow = true) ∧ (∃ s : State, s.resetLow = false) ∧
      ∃ (c : Instr) (s : State), s.resetLow = true ∧ c ≠ .pinReset ∧ c ≠ .resetnRelease :=
  ⟨⟨{ ready with resetLow := true }, rfl⟩, ⟨ready, rfl⟩, ⟨.samplePeriod, { ready with resetLow := true }, rfl, by decide,
    by decide⟩⟩

theorem witness_ResetCommandClearsRuntime :
    (∃ (s u : State) (tag : Byte) (p : List Byte), Takes s ⟨0x03, tag, p⟩ u ∧ p ≠ []) ∧
      ∃ (s u : State) (tag : Byte), Takes s ⟨0x03, tag, []⟩ u :=
  ⟨⟨_, _, 9, [0], takes_frame (lesson .answering) 0x03 [0] rfl rfl (by decide), by decide⟩,
    ⟨_, _, 9, takes_frame (lesson .answering) 0x03 [] rfl rfl (by decide)⟩⟩

/-- BEGIN in READY, in SETUP with a payload and in SETUP without one; and a bank check of each outcome. -/
theorem witness_BeginAndItsBankCheck :
    (∃ s u : State, Takes s ⟨0x02, 9, []⟩ u ∧ s.op = .ready) ∧ (∃ s u : State, Takes s ⟨0x02, 9, [1]⟩ u ∧ s.op = .setup) ∧
      (∃ s u : State, Takes s ⟨0x02, 9, []⟩ u ∧ s.op = .setup) ∧
      ∃ (s : State) (tag : Byte), s.resetLow = false ∧ s.link.begun = some tag ∧ s.bank.flash = oneClip :=
  ⟨⟨_, _, takes_frame ready 0x02 [] rfl rfl (by decide), rfl⟩,
    ⟨_, _, takes_frame State.reset 0x02 [1] rfl rfl (by decide), rfl⟩,
    ⟨_, _, takes_frame State.reset 0x02 [] rfl rfl (by decide), rfl⟩,
    ⟨{ ready with link := { ready.link with begun := some 9 } }, 9, rfl, rfl, rfl⟩⟩

theorem witness_DozeAndWake :
    (∃ s u : State, Takes s ⟨0x04, 9, []⟩ u ∧ s.op = .ready ∧ s.cycle.lesson.current = false ∧
      (∀ src, s.place src = ⟨[], none⟩) ∧ s.arbiter.running = none ∧ s.ring.events = [] ∧ s.intake.passHold = false ∧
      s.scanner.held = []) ∧
    (∃ s u : State, Takes s ⟨0x04, 9, []⟩ u ∧ s.op = .ready ∧ s.cycle.lesson.current = false ∧
      (∀ src, s.place src = ⟨[], none⟩) ∧ s.arbiter.running = none ∧ s.ring.events = [] ∧ s.intake.passHold = false ∧
      s.scanner.held = [⟨63, false⟩] ∧ ScannerLaw s ∧ s.scanner.isDown 63 = true) ∧
    (∃ s u : State, Takes s ⟨0x04, 9, []⟩ u ∧ s.cycle.lesson.current = true) ∧
    (∃ s u : State, Takes s ⟨0x04, 9, [1]⟩ u ∧ s.op = .ready) ∧
    (∃ s u : State, Takes s ⟨0x05, 9, []⟩ u ∧ s.op = .doze) ∧ (∃ s u : State, Takes s ⟨0x05, 9, [1]⟩ u ∧ s.op = .doze) ∧
    ∃ s u : State, Takes s ⟨0x05, 9, []⟩ u ∧ s.op = .ready :=
  ⟨⟨_, _, takes_frame ready 0x04 [] rfl rfl (by decide), rfl, rfl, fun src => by cases src <;> rfl, rfl, rfl, rfl, rfl⟩,
    ⟨_, _, takes_frame { ready with scanner := { ready.scanner with held := [⟨63, false⟩] } } 0x04 [] rfl rfl (by decide),
      rfl, rfl, fun src => by cases src <;> rfl, rfl, rfl, rfl, rfl, by decide, by decide⟩,
    ⟨_, _, takes_frame (lesson .answering) 0x04 [] rfl rfl (by decide), rfl⟩,
    ⟨_, _, takes_frame ready 0x04 [1] rfl rfl (by decide), rfl⟩,
    ⟨_, _, takes_frame { ready with op := .doze } 0x05 [] rfl rfl (by decide), rfl⟩,
    ⟨_, _, takes_frame { ready with op := .doze } 0x05 [1] rfl rfl (by decide), rfl⟩,
    ⟨_, _, takes_frame ready 0x05 [] rfl rfl (by decide), rfl⟩⟩

/-- Position 63 completes and position 5 does not. -/
theorem witness_WakingPressWakesQuietly :
    ∃ s : State, s.resetLow = false ∧ s.op = .doze ∧ ScannerLaw s ∧
      (∃ i ∈ s.scanner.intervals, i.position = 63 ∧ i.due = true ∧ s.scanner.isDown 63 = false) ∧
      ¬∃ i ∈ s.scanner.intervals, i.position = 5 ∧ i.due = true ∧ s.scanner.isDown 5 = false :=
  ⟨{ ready with op := .doze, scanner := { ready.scanner with intervals := [⟨5, 3, false⟩, ⟨63, 20, true⟩] } }, rfl, rfl,
    by decide, ⟨⟨63, 20, true⟩, by decide, rfl, rfl, by decide⟩, by decide⟩

theorem witness_OperatingStateMoves :
    (∃ (c : Instr) (s t : State), OutboxLaw s ∧ exec c s = .next t ∧ s.op = .ready ∧ t.op = .doze) ∧
    (∃ (c : Instr) (s t : State), OutboxLaw s ∧ exec c s = .next t ∧ s.op = .setup ∧ t.op = .ready) ∧
    (∃ (c : Instr) (s t : State), OutboxLaw s ∧ exec c s = .next t ∧ s.op = .doze ∧ t.op = .ready) ∧
    ∃ (c : Instr) (s t : State), OutboxLaw s ∧ exec c s = .next t ∧ s.op = .ready ∧ t.op = .setup :=
  ⟨⟨.doze 9 [], ready, _, by decide, rfl, rfl, rfl⟩,
    ⟨.bankCheckComplete, { ready with op := .setup, link := { ready.link with begun := some 9 } }, _, by decide, rfl, rfl, by decide⟩,
    ⟨.wake 9 [], { ready with op := .doze }, _, by decide, rfl, rfl, rfl⟩, ⟨.reset 9 [], ready, _, by decide, rfl, rfl, rfl⟩⟩

theorem witness_ScanDebouncesEveryPosition :
    (∃ s : State, s.resetLow = false ∧ s.op = .setup) ∧ ∃ (s : State) (p : Nat), s.resetLow = false ∧ s.op ≠ .setup ∧
      p < 64 ∧ p = 63 :=
  ⟨⟨State.reset, rfl, rfl⟩, ⟨ready, 63, rfl, by decide, by decide, rfl⟩⟩

theorem witness_PressAndReleaseMakeTheirEvents :
    (∃ (s : State) (p : Nat), s.resetLow = false ∧ s.op = .ready ∧ s.scanner.completes p = true ∧
      s.scanner.isDown p = false ∧ p = 63) ∧
    ∃ (s : State) (p : Nat), s.resetLow = false ∧ s.op ≠ .setup ∧ s.scanner.completes p = true ∧
      s.scanner.isDown p = true ∧ p = 0 :=
  ⟨⟨{ ready with scanner := { ready.scanner with intervals := [⟨63, 20, true⟩] } }, 63, rfl, rfl, by decide, by decide, rfl⟩,
    ⟨{ ready with scanner := { ready.scanner with held := [⟨0, false⟩], intervals := [⟨0, 20, true⟩] } }, 0, rfl,
      by decide, by decide, by decide, rfl⟩⟩

theorem witness_SetKeysStoresTheRun :
    ∃ (s u : State) (d e first : Byte) (recs : List (Byte × Byte)),
      Takes s ⟨0x10, 9, d :: e :: first :: recs.flatMap fun r => [r.1, r.2]⟩ u ∧ s.op ≠ .doze ∧
      s.cycle.lesson.current = false ∧ s.scanner.keyMap.length = 64 ∧ recs ≠ [] ∧ e.toNat ≤ 2 ∧
      first.toNat + recs.length = 64 ∧
      ∀ r ∈ recs, r.1.toNat ≤ 7 ∧ r.2.toNat ≤ 28 ∧ (r.1.toNat = 1 → 1 ≤ r.2.toNat) :=
  ⟨_, _, 9, 2, 63, [(1, 28)], takes_frame ready 0x10 [9, 2, 63, 1, 28] rfl rfl (by decide), by decide, rfl, by decide,
    by decide, by decide, by decide, fun r hr => by obtain rfl := List.eq_of_mem_singleton hr; decide⟩

theorem witness_PassHeadsAndDiscardedHeads :
    (∃ (s : State) (e : KeyEvent) (rest : List KeyEvent), s.resetLow = false ∧ s.op = .ready ∧ s.ring.events = e :: rest ∧
      e.role = .pass ∧ s.intake.passHold = false) ∧
    (∃ s : State, s.intake.passHold = true) ∧
    ∃ (s : State) (e : KeyEvent) (rest : List KeyEvent), s.resetLow = false ∧ s.op = .ready ∧ s.ring.events = e :: rest ∧
      e.role ≠ .pass ∧ s.cycle.lesson.current = false ∧ s.intake.passHold = false :=
  ⟨⟨typing ⟨63, .pass, 0, .press⟩, _, [], rfl, rfl, rfl, rfl, rfl⟩,
    ⟨{ ready with intake := { ready.intake with passHold := true } }, rfl⟩,
    ⟨{ ready with ring := ⟨[⟨5, .go, 0, .press⟩], 0⟩ }, _, [], rfl, rfl, rfl, by decide, rfl, rfl⟩⟩

theorem witness_HeadsWait :
    (∃ s : State, s.intake.passHold = true) ∧ (∃ s : State, s.cycle.lesson = .paused) ∧
    (∃ s : State, s.cycle.lesson = .running ∧ s.cycle.phase ≠ .answering) ∧
    (∃ s : State, s.cycle.lesson = .running ∧ s.intake.letterHold = true) ∧
    ∃ c : Instr, c ∈ [Instr.takePass, .discardHead, .takeLetter, .takeRubout, .takeGo, .takeSpace, .takeHear, .takeHint] ∧
      c ≠ .takePass :=
  ⟨⟨{ ready with intake := { ready.intake with passHold := true } }, rfl⟩,
    ⟨{ ready with cycle := { ready.cycle with lesson := .paused } }, rfl⟩, ⟨lesson .prompting, rfl, by decide⟩,
    ⟨{ lesson .answering with intake := { ready.intake with letterHold := true } }, rfl, rfl⟩, .takeGo, by decide, by decide⟩

theorem acting_typing (e : KeyEvent) : (typing e).actingHead e [] := ⟨rfl, rfl, rfl, rfl, rfl, rfl, rfl⟩

/-- Twenty-three symbols typed, FREE; an accepted letter, GUIDED; SNAP over an echo that sounds; a full ECHO list while a host
utterance sounds; and a full Attempt. -/
theorem witness_LetterIsTyped :
    (∃ (s : State) (e : KeyEvent) (rest : List KeyEvent), s.actingHead e rest ∧ e.role = .letter ∧
      s.intake.settings.checkMode = .free ∧ s.intake.attempt.length = 23) ∧
    (∃ (s : State) (e : KeyEvent) (rest : List KeyEvent), s.actingHead e rest ∧ e.role = .letter ∧
      s.intake.settings.checkMode = .guided ∧ guidedAccepts s.judge.rule s.target s.intake.attempt e.symbol = true ∧
      s.intake.attempt.length < 24) ∧
    (∃ (s : State) (e : KeyEvent) (rest : List KeyEvent) (r : Running), s.actingHead e rest ∧ e.role = .letter ∧
      s.intake.settings.checkMode = .free ∧ s.intake.attempt.length < 24 ∧ s.arbiter.running = some r ∧
      s.arbiter.echoPolicy = .snap ∧ r.utterance.source = .echo) ∧
    (∃ (s : State) (e : KeyEvent) (rest : List KeyEvent) (r : Running), s.actingHead e rest ∧ e.role = .letter ∧
      s.intake.settings.checkMode = .free ∧ s.intake.attempt.length < 24 ∧ s.arbiter.running = some r ∧
      s.arbiter.echoPolicy = .queue ∧ (s.place .echo).pending.length = 4) ∧
    ∃ (s : State) (e : KeyEvent) (rest : List KeyEvent), s.actingHead e rest ∧ e.role = .letter ∧
      s.intake.settings.checkMode = .free ∧ s.intake.attempt.length = 24 ∧ s.intake.attemptFull = false :=
  ⟨⟨withAttempt (typing ⟨9, .letter, 3, .press⟩) (List.replicate 23 3), _, _, acting_typing _, rfl, rfl, by decide⟩,
    ⟨guided (typing ⟨9, .letter, 3, .press⟩), _, _, acting_typing _, rfl, rfl, by decide, by decide⟩,
    ⟨{ typing ⟨9, .letter, 3, .press⟩ with
        arbiter := { ready.arbiter with echoPolicy := .snap, running := some (running (speech .echo .echo) .playing) } },
      _, _, _, acting_typing _, rfl, rfl, by decide, rfl, rfl, rfl⟩,
    ⟨speaking (withList (typing ⟨9, .letter, 3, .press⟩) .echo (List.replicate 4 (speech .echo .echo)))
        (running (speech .queue .host) .playing),
      _, _, _, acting_typing _, rfl, rfl, by decide, rfl, rfl, rfl⟩,
    ⟨withAttempt (typing ⟨9, .letter, 3, .press⟩) (List.replicate 24 3), _, _, acting_typing _, rfl, rfl, by decide, rfl⟩⟩

theorem witness_GuidedCheckAndRefusal :
    (∃ sym : Nat, isMark sym = true ∧ sym = 27) ∧ (∃ sym : Nat, isMark sym = false ∧ sym = 26) ∧
    ∃ (s : State) (e : KeyEvent) (rest : List KeyEvent), s.actingHead e rest ∧ e.role = .letter ∧
      s.intake.settings.checkMode = .guided ∧ guidedAccepts s.judge.rule s.target s.intake.attempt e.symbol = false :=
  ⟨⟨27, by decide, rfl⟩, ⟨26, by decide, rfl⟩, guided (typing ⟨9, .letter, 1, .press⟩), _, _, acting_typing _, rfl, rfl,
    by decide⟩

theorem witness_RuboutTakesBack :
    (∃ (s : State) (e : KeyEvent) (rest : List KeyEvent), s.actingHead e rest ∧ e.role = .rubout ∧ s.intake.attempt = []) ∧
    ∃ (s : State) (e : KeyEvent) (rest : List KeyEvent) (u : Utterance), s.actingHead e rest ∧ e.role = .rubout ∧
      s.intake.attempt.getLast? = some 3 ∧ (s.place .echo).pending = [] ++ u :: [] ∧ u.echoes 3 = true :=
  ⟨⟨typing ⟨9, .rubout, 0, .press⟩, _, _, acting_typing _, rfl, rfl⟩,
    ⟨withAttempt (withList (typing ⟨9, .rubout, 0, .press⟩) .echo [partUtterance .echo .echo [.letter 3]]) [1, 3], _, _, _,
      acting_typing _, rfl, rfl, rfl, by decide⟩⟩

theorem witness_GoBeginsJudging :
    (∃ (s : State) (e : KeyEvent) (rest : List KeyEvent), s.actingHead e rest ∧ e.role = .go ∧ s.intake.attempt ≠ [] ∧
      s.cycle.index < s.cycle.results.length) ∧
    ∃ (s : State) (e : KeyEvent) (rest : List KeyEvent), s.actingHead e rest ∧ e.role = .space ∧
      s.intake.settings.spaceEndsWord = true ∧ s.intake.attempt ≠ [] ∧ s.cycle.index < s.cycle.results.length :=
  ⟨⟨withAttempt (typing ⟨58, .go, 0, .press⟩) [3], _, _, acting_typing _, rfl, by decide, by decide⟩,
    ⟨{ typing ⟨58, .space, 0, .press⟩ with
        intake := { ready.intake with
          attempt := [3], settings := { ready.intake.settings with spaceEndsWord := true } } },
      _, _, acting_typing _, rfl, rfl, by decide, by decide⟩⟩

theorem witness_HearRequests :
    (∃ (s : State) (e : KeyEvent) (rest : List KeyEvent), s.actingHead e rest ∧ e.role = .hear ∧
      s.place .word = ⟨[], none⟩ ∧ s.sounding .word = false) ∧
    (∃ (s : State) (e : KeyEvent) (rest : List KeyEvent), s.actingHead e rest ∧ e.role = .go ∧ s.intake.attempt = [] ∧
      s.sounding .word = true) ∧
    ∃ (s : State) (e : KeyEvent) (rest : List KeyEvent), s.actingHead e rest ∧ e.role = .space ∧
      s.intake.settings.spaceEndsWord = false :=
  ⟨⟨typing ⟨58, .hear, 0, .press⟩, _, _, acting_typing _, rfl, rfl, rfl⟩,
    ⟨speaking (typing ⟨58, .go, 0, .press⟩) (running (speech .word .wordPrompt) .playing), _, _, acting_typing _, rfl, rfl,
      by decide⟩,
    ⟨typing ⟨58, .space, 0, .press⟩, _, _, acting_typing _, rfl, rfl⟩⟩

theorem witness_HintSpeaksTheNextSymbol :
    (∃ (A T : List Nat) (k : Nat), k ≤ A.length ∧ k ≤ T.length ∧ A.take k = T.take k ∧ k = 2) ∧
    (∃ (s : State) (e : KeyEvent) (rest : List KeyEvent) (w : WordRecord), s.actingHead e rest ∧ e.role = .hint ∧
      s.currentWord = some w ∧ (s.place .verdict).pending.length = 4) ∧
    ∃ (s : State) (e : KeyEvent) (rest : List KeyEvent) (w : WordRecord), s.actingHead e rest ∧ e.role = .hint ∧
      s.currentWord = some w ∧ (s.place .verdict).pending.length = 3 :=
  ⟨⟨[3, 1], [3, 1, 20], 2, by decide, by decide, by decide, rfl⟩,
    ⟨withList (typing ⟨58, .hint, 0, .press⟩) .verdict (List.replicate 4 (speech .verdict .oops)), _, _, cat,
      acting_typing _, rfl, rfl, rfl⟩,
    ⟨withList (typing ⟨58, .hint, 0, .press⟩) .verdict (List.replicate 3 (speech .verdict .oops)), _, _, cat,
      acting_typing _, rfl, rfl, rfl⟩⟩

theorem witness_ReleaseClosesItsHold :
    (∃ s u : State, ∃ p : List Byte, ∃ c : Instr, Takes s ⟨0x27, 9, p⟩ u ∧
      c ∈ [Instr.releaseLetter 9 p, .releasePass 9 p, .releaseWord 9 p] ∧ s.op = .doze ∧ p = [2] ∧ c = .releaseWord 9 p) ∧
    (∃ s u : State, ∃ p : List Byte, ∃ c : Instr, Takes s ⟨0x27, 9, p⟩ u ∧
      c ∈ [Instr.releaseLetter 9 p, .releasePass 9 p, .releaseWord 9 p] ∧ s.op = .ready ∧ p.length = 1 ∧ field p 0 = 3 ∧
      ∀ target : Byte, p = [target] → ¬target.toNat ≤ 2) ∧
    (∃ s u : State, Takes s ⟨0x27, 9, [0, 0]⟩ u ∧ s.op = .ready) ∧
    (∃ s u : State, s.op = .ready ∧ Takes s ⟨0x27, 9, [0]⟩ u ∧ s.intake.letterHold = true) ∧
    (∃ s u : State, s.op = .ready ∧ Takes s ⟨0x27, 9, [0]⟩ u ∧ s.intake.letterHold = false) ∧
    ∃ s u : State, s.op = .ready ∧ Takes s ⟨0x27, 9, [1]⟩ u ∧ s.intake.passHold = true :=
  ⟨⟨_, _, [2], .releaseWord 9 [2], takes_frame { ready with op := .doze } 0x27 [2] rfl rfl (by decide), by decide, rfl, rfl,
      rfl⟩,
    ⟨_, _, [3], .releasePass 9 [3], takes_frame ready 0x27 [3] rfl rfl (by decide), by decide, rfl, rfl, rfl,
      fun target h => by cases h; decide⟩,
    ⟨_, _, takes_frame ready 0x27 [0, 0] rfl rfl (by decide), rfl⟩,
    ⟨_, _, rfl, takes_frame { ready with intake := { ready.intake with letterHold := true } } 0x27 [0] rfl rfl (by decide),
      rfl⟩,
    ⟨_, _, rfl, takes_frame ready 0x27 [0] rfl rfl (by decide), rfl⟩,
    ⟨_, _, rfl, takes_frame { ready with intake := { ready.intake with passHold := true } } 0x27 [1] rfl rfl (by decide),
      rfl⟩⟩

theorem witness_SettingsTakenAtAnyTime :
    (∃ s u : State, ∃ p : List Byte, Takes s ⟨0x13, 9, p⟩ u ∧ p.length = 16 ∧ s.op = .doze) ∧
    (∃ s u : State, ∃ p : List Byte, Takes s ⟨0x18, 9, p⟩ u ∧ p.length = 5 ∧ field p 4 = 2 ∧ s.op = .doze) ∧
    (∃ s u : State, ∃ p : List Byte, Takes s ⟨0x2A, 9, p⟩ u ∧ s.op = .doze) ∧
    ∃ s u : State, ∃ p : List Byte, Takes s ⟨0x2A, 9, p⟩ u ∧ s.op = .setup ∧ p.length = 2 ∧ field p 0 = 31 ∧ field p 1 = 32 :=
  ⟨⟨_, _, _, takes_frame { ready with op := .doze } 0x13 (List.replicate 16 1) rfl rfl (by decide), rfl, rfl⟩,
    ⟨_, _, _, takes_frame { ready with op := .doze } 0x18 [255, 0, 1, 2, 2] rfl rfl (by decide), rfl, rfl, rfl⟩,
    ⟨_, _, _, takes_frame { ready with op := .doze } 0x2A [0, 1] rfl rfl (by decide), rfl⟩,
    ⟨_, _, _, takes_frame State.reset 0x2A [31, 32] rfl rfl (by decide), rfl, rfl, rfl, rfl⟩⟩

/-- SET_KEYS of a wrong size in DOZE, in a lesson and in READY; another setting in DOZE, of a wrong size, while a lesson is under
way, and one value without a meaning of each command. -/
theorem witness_LessonSettingsAreRefused :
    (∃ s u : State, Takes s ⟨0x10, 9, []⟩ u ∧ s.op = .doze) ∧
    (∃ s u : State, Takes s ⟨0x10, 9, [4]⟩ u ∧ s.op ≠ .doze ∧ s.cycle.lesson.current = true) ∧
    (∃ s u : State, Takes s ⟨0x10, 9, [4]⟩ u ∧ s.op ≠ .doze ∧ s.cycle.lesson.current = false) ∧
    (∃ s u : State, Takes s ⟨0x11, 9, []⟩ u ∧ s.op = .doze) ∧ (∃ s u : State, Takes s ⟨0x12, 9, [1]⟩ u ∧ s.op = .setup) ∧
    (∃ s u : State, Takes s ⟨0x16, 9, [0, 0, 0, 0, 0]⟩ u ∧ s.op = .ready ∧ s.cycle.lesson.current = true) ∧
    ∀ kp ∈ ([(0x10, [1, 2, 63, 1, 28, 1, 28]), (0x11, [0, 0, 0, 0, 0, 2]), (0x12, [29, 0, 0, 0, 0, 0, 0, 0, 0]),
        (0x14, [1, 1, 27]), (0x15, [0, 1, 0, 1, 0, 1, 0, 1, 0, 1, 0, 1, 3, 0]), (0x17, [50, 1, 2])] :
        List (Byte × List Byte)),
      ∃ s u : State, Takes s ⟨kp.1, 9, kp.2⟩ u ∧ s.op = .ready ∧ s.cycle.lesson.current = false :=
  ⟨⟨_, _, takes_frame { ready with op := .doze } 0x10 [] rfl rfl (by decide), rfl⟩,
    ⟨_, _, takes_frame (lesson .answering) 0x10 [4] rfl rfl (by decide), by decide, rfl⟩,
    ⟨_, _, takes_frame ready 0x10 [4] rfl rfl (by decide), by decide, rfl⟩,
    ⟨_, _, takes_frame { ready with op := .doze } 0x11 [] rfl rfl (by decide), rfl⟩,
    ⟨_, _, takes_frame State.reset 0x12 [1] rfl rfl (by decide), rfl⟩,
    ⟨_, _, takes_frame (lesson .answering) 0x16 [0, 0, 0, 0, 0] rfl rfl (by decide), rfl, rfl⟩,
    fun kp _ => ⟨_, _, takes_frame ready kp.1 kp.2 rfl rfl (by decide), rfl, rfl⟩⟩

theorem witness_LessonSettingsAreStored :
    (∃ s u : State, Takes s ⟨0x11, 9, [flagByte true, flagByte false, flagByte true, flagByte true, flagByte false,
      flagByte true]⟩ u ∧ s.op ≠ .doze ∧ s.cycle.lesson.current = false) ∧
    (∃ s u : State, Takes s ⟨0x16, 9, [0, 0, 0x59, 2, 9]⟩ u ∧ s.op ≠ .doze ∧ s.cycle.lesson.current = false) ∧
    ∃ (s u : State) (rule : Byte), Takes s ⟨0x17, 9, [49, 8, rule]⟩ u ∧ s.op ≠ .doze ∧ s.cycle.lesson.current = false ∧
      rule.toNat = 1 :=
  ⟨⟨_, _, takes_frame ready 0x11 [1, 0, 1, 1, 0, 1] rfl rfl (by decide), by decide, rfl⟩,
    ⟨_, _, takes_frame ready 0x16 [0, 0, 0x59, 2, 9] rfl rfl (by decide), by decide, rfl⟩,
    ⟨_, _, 1, takes_frame ready 0x17 [49, 8, 1] rfl rfl (by decide), by decide, rfl, rfl⟩⟩

/-- Sixteen pairs, and a map entry of symbol 28. -/
theorem witness_PairsAndLettersAreStored :
    (∃ (s u : State) (ps : List (Byte × Byte)), Takes s ⟨0x14, 9, byteOf ps.length :: ps.flatMap fun r => [r.1, r.2]⟩ u ∧
      s.op ≠ .doze ∧ s.cycle.lesson.current = false ∧ ps.length = 16 ∧
      ∀ r ∈ ps, 1 ≤ r.1.toNat ∧ r.1.toNat ≤ 26 ∧ 1 ≤ r.2.toNat ∧ r.2.toNat ≤ 26 ∧ r.1 ≠ r.2) ∧
    ∃ (s u : State) (first : Byte) (es : List (List Byte)), Takes s ⟨0x12, 9, first :: es.flatten⟩ u ∧ s.op ≠ .doze ∧
      s.cycle.lesson.current = false ∧ s.voice.letterMap.length = 28 ∧ es ≠ [] ∧ 1 ≤ first.toNat ∧
      first.toNat + es.length = 29 ∧ ∀ e ∈ es, e.length = 8 ∧ field e 0 ≤ 3 :=
  ⟨⟨_, _, List.replicate 16 (1, 26), takes_frame ready 0x14 _ rfl rfl (by decide), by decide, rfl, by decide,
      fun r hr => by obtain rfl := List.eq_of_mem_replicate hr; decide⟩,
    ⟨_, _, 28, [[3, 1, 0, 2, 0, 3, 0, 9]], takes_frame ready 0x12 _ rfl rfl (by decide), by decide, rfl, by decide,
      by decide, by decide, by decide, by decide⟩⟩

theorem witness_SetSourcesStoresAndTests :
    ∃ (s u : State) (p : List Byte), Takes s ⟨0x15, 9, p⟩ u ∧ s.op ≠ .doze ∧ s.cycle.lesson.current = false ∧
      p.length = 14 ∧ (∀ i, i < 6 → field p (2 * i + 1) ≤ 1) ∧ field p 12 ≤ 2 :=
  ⟨_, _, [0, 1, 1, 0, 1, 0, 2, 0, 7, 0, 3, 0, 2, 20], takes_frame ready 0x15 _ rfl rfl (by decide), by decide, rfl,
    by decide, by decide, by decide⟩

theorem witness_QueriesReportAndChangeNothing :
    (∃ s u : State, Takes s ⟨0x01, 9, []⟩ u ∧ s.op = .doze) ∧ (∃ (i : Nat) (src : Source), tieOrder[i]? = some src ∧ i = 5) ∧
    (∃ s u : State, Takes s ⟨0x28, 9, []⟩ u ∧ s.op = .ready ∧ s.judge.last = none) ∧
    (∃ (s u : State) (j : Judgement), Takes s ⟨0x28, 9, []⟩ u ∧ s.op = .ready ∧ s.judge.last = some j) ∧
    (∃ s u : State, Takes s ⟨0x2B, 9, []⟩ u ∧ s.op = .ready) ∧
    ∃ s u : State, ∃ p : List Byte, Takes s ⟨0x29, 9, p⟩ u ∧ s.cycle.results.length = 32 ∧ s.op = .ready ∧ p.length = 2 ∧
      field p 0 + field p 1 = 32 :=
  ⟨⟨_, _, takes_frame { ready with op := .doze } 0x01 [] rfl rfl (by decide), rfl⟩,
    ⟨5, .queue, rfl, rfl⟩, ⟨_, _, takes_frame ready 0x28 [] rfl rfl (by decide), rfl, rfl⟩,
    ⟨_, _, judgedCase [3, 1, 20] [3, 20] .strict [],
      takes_frame { ready with judge := { ready.judge with last := some (judgedCase [3, 1, 20] [3, 20] .strict []) } } 0x28 []
        rfl rfl (by decide), rfl, rfl⟩,
    ⟨_, _, takes_frame ready 0x2B [] rfl rfl (by decide), rfl⟩,
    ⟨_, _, _, takes_frame ready 0x29 [31, 1] rfl rfl (by decide), by decide, rfl, rfl, rfl⟩⟩

/-- The record of CAT as 11 R174 lays it out. -/
def catBytes : List Byte := [3, 3, 1, 20] ++ List.replicate 17 0 ++ [1, 0, 0, 0, 2]

theorem witness_WordTableLoadsAndClears :
    (∃ (s u : State) (recs : List (List Byte)), Takes s ⟨0x20, 9, byteOf recs.length :: recs.flatten⟩ u ∧ s.op = .ready ∧
      s.cycle.lesson.current = false ∧ recs ≠ [] ∧ recs.length = 8 ∧ (∀ r ∈ recs, r.length = 26 ∧ wordRecordOk r = true) ∧
      s.cycle.words.length + recs.length = 32) ∧
    (∃ s u : State, Takes s ⟨0x20, 9, []⟩ u ∧ s.op = .setup) ∧ (∃ s u : State, Takes s ⟨0x20, 9, [1]⟩ u ∧ s.op = .ready) ∧
    (∃ s u : State, ∃ p : List Byte, Takes s ⟨0x20, 9, p⟩ u ∧ s.op = .ready ∧ field p 0 = 1 ∧ p.length = 27 ∧
      s.cycle.lesson.current = true) ∧
    (∃ s u : State, ∃ p : List Byte, Takes s ⟨0x20, 9, p⟩ u ∧ s.op = .ready ∧ field p 0 = 1 ∧ p.length = 27 ∧
      s.cycle.lesson.current = false ∧ field p 1 = 21) ∧
    (∃ (w : WordRecord) (hints : Nat), w.spelling.length = 20 ∧ (∀ x ∈ w.spelling, 1 ≤ x ∧ x ≤ 28) ∧
      (∃ x ∈ w.spelling, x ≤ 26) ∧ w.wordClip = 65535 ∧ w.sentenceClip < 65536 ∧ hints = 255 ∧
      w.hintsAllowed = min 3 hints) ∧
    ∃ s u : State, Takes s ⟨0x21, 9, []⟩ u ∧ s.op = .ready ∧ s.cycle.lesson.current = false :=
  ⟨⟨_, _, List.replicate 8 catBytes,
      takes_frame { ready with cycle := { ready.cycle with words := List.replicate 24 cat } } 0x20 _ rfl rfl (by decide), rfl,
      rfl, by decide, by decide, by decide, by decide⟩,
    ⟨_, _, takes_frame State.reset 0x20 [] rfl rfl (by decide), rfl⟩, ⟨_, _, takes_frame ready 0x20 [1] rfl rfl (by decide), rfl⟩,
    ⟨_, _, 1 :: catBytes, takes_frame (lesson .answering) 0x20 _ rfl rfl (by decide), rfl, rfl, by decide, rfl⟩,
    ⟨_, _, 1 :: 21 :: List.replicate 25 1, takes_frame ready 0x20 _ rfl rfl (by decide), rfl, rfl, by decide, rfl, rfl⟩,
    ⟨⟨List.replicate 20 26, 65535, 0, 3⟩, 255, by decide, by decide, ⟨26, by decide, by decide⟩, rfl, by decide, rfl,
      by decide⟩,
    ⟨_, _, takes_frame ready 0x21 [] rfl rfl (by decide), rfl, rfl⟩⟩

theorem witness_StartAndGotoBeginAWord :
    (∃ (s u : State) (i : Byte), Takes s ⟨0x22, 9, [i]⟩ u ∧ s.op = .ready ∧ s.cycle.lesson = .loaded ∧
      i.toNat + 1 = s.cycle.words.length) ∧
    ∃ (s u : State) (i : Byte), Takes s ⟨0x26, 9, [i]⟩ u ∧ s.op = .ready ∧ s.cycle.lesson = .running ∧
      i.toNat + 1 = s.cycle.words.length :=
  ⟨⟨_, _, 1, takes_frame { ready with cycle := { (lesson .none).cycle with lesson := .loaded } } 0x22 [1] rfl rfl (by decide),
      rfl, rfl, rfl⟩,
    ⟨_, _, 1, takes_frame (lesson .answering) 0x26 [1] rfl rfl (by decide), rfl, rfl, rfl⟩⟩

/-- One refusal of each reason: START in READY with the lesson EMPTY, PAUSE in SETUP, RESUME with a payload, STOP with the
lesson EMPTY, and GOTO with the first index past the words. -/
theorem witness_LessonCommandsAreRefused :
    (∃ s u : State, Takes s ⟨0x22, 9, [0]⟩ u ∧ s.op = .ready ∧ s.cycle.lesson = .empty) ∧
    (∃ s u : State, Takes s ⟨0x23, 9, []⟩ u ∧ s.op ≠ .ready) ∧
    (∃ (s u : State) (p : List Byte), Takes s ⟨0x24, 9, p⟩ u ∧ s.op = .ready ∧ p.length ≠ 0) ∧
    (∃ s u : State, Takes s ⟨0x25, 9, []⟩ u ∧ s.op = .ready ∧ ¬(s.cycle.lesson = .running ∨ s.cycle.lesson = .paused)) ∧
    ∃ (s u : State) (p : List Byte), Takes s ⟨0x26, 9, p⟩ u ∧ s.op = .ready ∧ p.length = 1 ∧ s.cycle.lesson = .running ∧
      s.cycle.words.length = field p 0 :=
  ⟨⟨_, _, takes_frame ready 0x22 [0] rfl rfl (by decide), rfl, rfl⟩,
    ⟨_, _, takes_frame State.reset 0x23 [] rfl rfl (by decide), by decide⟩,
    ⟨_, _, [0], takes_frame ready 0x24 [0] rfl rfl (by decide), rfl, by decide⟩,
    ⟨_, _, takes_frame ready 0x25 [] rfl rfl (by decide), rfl, by decide⟩,
    ⟨_, _, [2], takes_frame (lesson .answering) 0x26 [2] rfl rfl (by decide), rfl, rfl, rfl, rfl⟩⟩

theorem witness_PauseResumeAndStop :
    (∃ s u : State, Takes s ⟨0x23, 9, []⟩ u ∧ s.op = .ready ∧ s.cycle.lesson = .running ∧ s.arbiter.running.isSome = true) ∧
    (∃ s u : State, Takes s ⟨0x24, 9, []⟩ u ∧ s.op = .ready ∧ s.cycle.lesson = .paused) ∧
    ∃ s u : State, Takes s ⟨0x25, 9, []⟩ u ∧ s.op = .ready ∧ s.cycle.lesson = .running :=
  ⟨⟨_, _, takes_frame (speaking (lesson .answering) (running (speech .word .wordPrompt) .playing)) 0x23 [] rfl rfl (by decide),
      rfl, rfl, rfl⟩,
    ⟨_, _, takes_frame { lesson .answering with cycle := { (lesson .answering).cycle with lesson := .paused } } 0x24 [] rfl rfl
      (by decide), rfl, rfl⟩,
    ⟨_, _, takes_frame (lesson .judging) 0x25 [] rfl rfl (by decide), rfl, rfl⟩⟩

theorem witness_ReleaseWordAdvances :
    (∃ s u : State, Takes s ⟨0x27, 9, [2]⟩ u ∧ s.op = .ready ∧ s.cycle.phase ≠ .held) ∧
    (∃ s u : State, Takes s ⟨0x27, 9, [2]⟩ u ∧ s.op = .ready ∧ s.cycle.phase = .held ∧
      s.cycle.index + 2 = s.cycle.words.length) ∧
    ∃ s u : State, Takes s ⟨0x27, 9, [2]⟩ u ∧ s.op = .ready ∧ s.cycle.phase = .held ∧
      s.cycle.words.length = s.cycle.index + 1 :=
  ⟨⟨_, _, takes_frame (lesson .answering) 0x27 [2] rfl rfl (by decide), rfl, by decide⟩,
    ⟨_, _, takes_frame (lesson .held) 0x27 [2] rfl rfl (by decide), rfl, rfl, rfl⟩,
    ⟨_, _, takes_frame { lesson .held with cycle := { (lesson .held).cycle with index := 1 } } 0x27 [2] rfl rfl (by decide),
      rfl, rfl, rfl⟩⟩

theorem witness_JudgingCompletes :
    ∃ (s : State) (r : JudgingRecord), s.resetLow = false ∧ s.judge.working = some r :=
  ⟨{ lesson .judging with judge := { ready.judge with working := some ⟨0, 1, [3, 20], [3, 1, 20], .strict, []⟩ } }, _, rfl, rfl⟩

theorem witness_DistanceTableRule :
    ∃ (A T : List Nat) (i j : Nat), 1 ≤ i ∧ i = A.length ∧ 1 ≤ j ∧ j = T.length :=
  ⟨[3, 20], [3, 1, 20], 2, 3, by decide, rfl, by decide, rfl⟩

theorem witness_MarksAndErrorsMatchTheDistance :
    ∃ (r : JudgingRecord) (i j : Nat), i = (reduce r.rule r.attempt).length ∧ j = (reduce r.rule r.target).length ∧ 1 ≤ i + j :=
  ⟨⟨0, 1, [27, 3], [4, 27], .skip, []⟩, 1, 1, by decide, by decide, by decide⟩

theorem witness_ScoreAndVerdictRules :
    (∃ d n : Nat, 1 ≤ n ∧ n = 20 ∧ 2 * n = d) ∧ (∃ d n : Nat, n = 1 ∧ n ≤ 20 ∧ d + 1 = 2 * n) ∧
    ∃ (r : JudgingRecord) (threshold : Nat), 50 ≤ threshold ∧ threshold = 99 ∧ 1 ≤ (reduce r.rule r.target).length ∧
      (reduce r.rule r.target).length ≤ 20 :=
  ⟨⟨40, 20, by decide, rfl, rfl⟩, ⟨1, 1, rfl, by decide, rfl⟩, ⟨0, 1, [27], [4, 27], .skip, []⟩, 99, by decide, rfl, by decide,
    by decide⟩

/-- An utterance of QUEUE that sounds while NOW, more urgent and with its cut-in flag on, holds one; and one alone. -/
theorem witness_ArbiterChoosesAndCutsIn :
    (∃ (s : State) (src : Source), s.choice = some src) ∧ (∃ s : State, s.choice = none) ∧
    (∃ (s : State) (r : Running), s.arbiter.running = some r ∧ r.state = .playing ∧
      ∃ c, s.participates c = true ∧ (s.arbiter.settings.get c).cutIn = true ∧ s.level c < s.level r.utterance.source) ∧
    ∃ (s : State) (r : Running), s.arbiter.running = some r ∧ r.state = .playing ∧
      ¬∃ c, s.participates c = true ∧ (s.arbiter.settings.get c).cutIn = true ∧ s.level c < s.level r.utterance.source :=
  ⟨⟨withList ready .now [speech .now .host], .now, by decide⟩, ⟨ready, by decide⟩,
    ⟨speaking (withList ready .now [speech .now .host]) (running (speech .queue .host) .playing), _, rfl, rfl, .now,
      by decide, by decide, by decide⟩,
    ⟨speaking ready (running (speech .queue .host) .playing), _, rfl, rfl,
      fun ⟨c, hc, _⟩ => by revert hc; cases c <;> decide⟩⟩

/-- The lesson in phase PROMPTING with the prompt of its word in the WORD slot. -/
def prompting : State :=
  withList (lesson .prompting) .word [partUtterance .word .wordPrompt [.clip 0, .word, .sentence, .word]]

/-- A clip from the QUEUE list, and a gap from a backup; a first WORD_PROMPT, and an utterance of which no item is left to sound;
an entry of the letter voice map, a current word, and none. -/
theorem witness_UtteranceStarts :
    (∃ (s : State) (src : Source) (u : Utterance) (tail : List Utterance) (item : Item) (k start len : Nat),
      s.resetLow = false ∧ s.arbiter.running = none ∧ s.choice = some src ∧ WordCycleLaw s ∧ u.source = src ∧
      (s.place src).backup = none ∧ (s.place src).pending = u :: tail ∧ u.items[u.resume]? = some item ∧
      s.resolve item = .clip (k + 1) ∧ s.bank.lookup (k + 1) = some (start, len) ∧ s.trimSamples item < len) ∧
    (∃ (s : State) (src : Source) (u : Utterance) (item : Item) (n : Nat),
      s.resetLow = false ∧ s.arbiter.running = none ∧ s.choice = some src ∧ WordCycleLaw s ∧ u.source = src ∧
      (s.place src).backup = some u ∧ u.items[u.resume]? = some item ∧ item = .gap n) ∧
    (∃ (s : State) (u : Utterance), s.resetLow = false ∧ s.arbiter.running = none ∧ s.choice = some .word ∧ WordCycleLaw s ∧
      (s.place .word).backup = none ∧ (s.place .word).pending = [u] ∧ u.kind = .wordPrompt ∧ s.cycle.phase = .prompting) ∧
    (∃ (s : State) (u : Utterance), s.resetLow = false ∧ s.arbiter.running = none ∧ s.choice = some .queue ∧
      WordCycleLaw s ∧ (s.place .queue).backup = none ∧ (s.place .queue).pending = [u] ∧
      (s.reach u.resume none (u.items.drop u.resume)).2 = none) ∧
    (∃ (s : State) (e : MapEntry), s.voice.letterMap[28 - 1]? = some e ∧ s.voice.echoStyle = .perLetter ∧ e.mode = .silent) ∧
    (∃ (s : State) (w : WordRecord), s.cycle.lesson = .paused ∧ s.cycle.words[s.cycle.index]? = some w) ∧
    ∃ s : State, s.cycle.lesson ≠ .running ∧ s.cycle.lesson ≠ .paused :=
  ⟨⟨withList ready .queue [speech .queue .host], .queue, speech .queue .host, [], .clip 1, 0, 21, 3, rfl, rfl, by decide,
      by decide, rfl, rfl, rfl, rfl, rfl, by decide, by decide⟩,
    ⟨ready.putPlace .now ⟨[], some ⟨.now, .host, 7, true, [.clip 1, .gap 2], 1⟩⟩, .now, _, .gap 2, 2, rfl, rfl, by decide,
      by decide, rfl, rfl, rfl, rfl⟩,
    ⟨prompting, _, rfl, rfl, by decide, by decide, rfl, rfl, rfl, rfl⟩,
    ⟨withList ready .queue [⟨.queue, .host, 7, true, [.clip 0, .word, .clip 2], 0⟩], _, rfl, rfl, by decide, by decide, rfl, rfl,
      by decide⟩,
    ⟨{ ready with voice := { ready.voice with letterMap := List.replicate 28 ⟨.silent, 1, 1, 1, 7⟩, echoStyle := .perLetter } },
      _, rfl, rfl, rfl⟩,
    ⟨{ lesson .answering with cycle := { (lesson .answering).cycle with lesson := .paused } }, cat, rfl, rfl⟩,
    ready, by decide, by decide⟩

/-- A running utterance whose stage has run out. -/
def stageOut (items : List Item) (stage : Stage) (clipLength : Nat) : Running :=
  ⟨⟨.queue, .host, 7, true, items, 0⟩, .playing, ⟨0, stage, 0, 21, clipLength, none⟩⟩

theorem witness_StageEndMovesOn :
    (∃ (s : State) (r : Running), s.resetLow = false ∧ s.arbiter.running = some r ∧ r.state = .playing ∧
      r.cursor.samplesLeft = 0 ∧ r.cursor.stage = .automaticGap ∧ r.cursor.clipLength ≠ 0) ∧
    (∃ (s : State) (r : Running), s.resetLow = false ∧ s.arbiter.running = some r ∧ r.state = .playing ∧
      r.cursor.samplesLeft = 0 ∧ r.cursor.stage ≠ .automaticGap ∧ r.utterance.items.length = r.cursor.index + 1) ∧
    (∃ (s : State) (r : Running) (n : Nat), s.resetLow = false ∧ s.arbiter.running = some r ∧ r.state = .playing ∧
      r.cursor.samplesLeft = 0 ∧ r.cursor.stage ≠ .automaticGap ∧ r.utterance.items[r.cursor.index + 1]? = some (.gap n)) ∧
    (∃ (s : State) (r : Running) (item : Item) (k start len : Nat), s.resetLow = false ∧ s.arbiter.running = some r ∧
      r.state = .playing ∧ r.cursor.samplesLeft = 0 ∧ r.cursor.stage ≠ .automaticGap ∧
      r.utterance.items[r.cursor.index + 1]? = some item ∧ s.resolve item = .clip (k + 1) ∧
      s.bank.lookup (k + 1) = some (start, len) ∧ s.trimSamples item < len) ∧
    (∃ (s : State) (r : Running), s.resetLow = false ∧ s.arbiter.running = some r ∧ r.state = .playing ∧
      r.cursor.samplesLeft = 0 ∧ r.cursor.stage = .automaticGap ∧ r.cursor.clipLength = 0) ∧
    (∃ (s : State) (item : Item), s.resolve item = .clip 0) ∧
    (∃ (s : State) (item : Item) (k : Nat), s.resolve item = .clip (k + 1) ∧ s.bank.lookup (k + 1) = none) ∧
    (∃ (s : State) (item : Item) (k start len : Nat), s.resolve item = .clip (k + 1) ∧
      s.bank.lookup (k + 1) = some (start, len) ∧ len ≤ s.trimSamples item) ∧
    ∃ (s : State) (items : List Item), items.length = 2 ∧ ∀ item ∈ items, s.resolve item = .clip 0 ∨
      ∃ k, s.resolve item = .clip (k + 1) ∧ s.bank.lookup (k + 1) = none :=
  ⟨⟨speaking ready (stageOut [.clip 1] .automaticGap 3), _, rfl, rfl, rfl, rfl, rfl, by decide⟩,
    ⟨speaking ready (stageOut [.clip 1] .clip 3), _, rfl, rfl, rfl, rfl, by decide, rfl⟩,
    ⟨speaking ready (stageOut [.clip 1, .gap 255] .clip 3), _, 255, rfl, rfl, rfl, rfl, by decide, rfl⟩,
    ⟨speaking ready (stageOut [.clip 1, .clip 1] .clip 3), _, .clip 1, 0, 21, 3, rfl, rfl, rfl, rfl, by decide, rfl, rfl,
      by decide, by decide⟩,
    ⟨speaking ready (stageOut [.clip 1] .automaticGap 0), _, rfl, rfl, rfl, rfl, rfl, rfl⟩,
    ⟨ready, .sentence, rfl⟩, ⟨ready, .clip 2, 1, rfl, by decide⟩,
    ⟨{ ready with voice := { ready.voice with letterMap := List.replicate 28 ⟨.name, 1, 0, 0, 1⟩ } }, .letter 28, 0, 21, 3, rfl,
      by decide, by decide⟩,
    ⟨ready, [.word, .clip 2], rfl, fun item h => by
      obtain rfl | h := List.mem_cons.mp h
      · exact .inl rfl
      · obtain rfl := List.eq_of_mem_singleton h
        exact .inr ⟨1, rfl, by decide⟩⟩⟩

/-- The lesson at a settled word, the first or the last one, with the end hold as given. -/
def settled (hold : Bool) (index : Nat) : State :=
  { lesson .feedback with
    cycle := { (lesson .feedback).cycle with
      index := index, results := List.replicate 32 { ResultRecord.clear with state := .exact } }
    intake := { ready.intake with settings := { ready.intake.settings with endHold := hold } } }

theorem witness_EndsAreReported :
    (∃ u : Utterance, u.source.isLesson = false ∧ u.notify = true) ∧
    (∃ (s : State) (u : Utterance), u.source.isLesson = true ∧ s.cycle.phase ≠ .feedback) ∧
    (∃ (s : State) (u : Utterance), u.source.isLesson = true ∧ s.cycle.phase = .feedback ∧ u.kind = .feedback ∧
      s.currentResult.state = .opened) ∧
    (∃ (s : State) (u : Utterance), u.source.isLesson = true ∧ s.cycle.phase = .feedback ∧ u.kind = .feedback ∧
      s.currentResult.state = .exact ∧ s.intake.settings.endHold = true) ∧
    (∃ (s : State) (u : Utterance), u.source.isLesson = true ∧ s.cycle.phase = .feedback ∧ u.kind = .spellback ∧
      s.currentResult.state = .exact ∧ s.intake.settings.endHold = false ∧ s.cycle.index + 2 = s.cycle.words.length) ∧
    ∃ (s : State) (u : Utterance), u.source.isLesson = true ∧ s.cycle.phase = .feedback ∧ u.kind = .feedback ∧
      s.currentResult.state = .exact ∧ s.intake.settings.endHold = false ∧ s.cycle.words.length = s.cycle.index + 1 :=
  ⟨⟨speech .queue .host, rfl, rfl⟩, ⟨lesson .answering, speech .echo .echo, rfl, by decide⟩,
    ⟨lesson .feedback, speech .verdict .feedback, rfl, rfl, rfl, rfl⟩,
    ⟨settled true 0, speech .verdict .feedback, rfl, rfl, rfl, rfl, rfl⟩,
    ⟨settled false 0, speech .verdict .spellback, rfl, rfl, rfl, rfl, rfl, rfl⟩,
    ⟨settled false 1, speech .verdict .feedback, rfl, rfl, rfl, rfl, rfl, rfl⟩⟩

theorem witness_FadeEndRestoresOrEnds :
    (∃ (s : State) (r : Running) (k : FadeKind) (n : Nat), s.resetLow = false ∧ s.arbiter.running = some r ∧
      r.state = .fading k n ∧ n = 31) ∧
    ∀ k : FadeKind, ∃ (s : State) (r : Running) (n : Nat), s.resetLow = false ∧ s.arbiter.running = some r ∧
      r.state = .fading k n ∧ n = 32 :=
  ⟨⟨speaking ready (running (speech .queue .host) (.fading .restore 31)), _, .restore, 31, rfl, rfl, rfl, rfl⟩,
    fun k => ⟨speaking ready (running (speech .queue .host) (.fading k 32)), _, 32, rfl, rfl, rfl, rfl⟩⟩

theorem witness_SamplesAndAmpHold :
    (∃ s : State, s.resetLow = false ∧ s.arbiter.running = none) ∧
    (∃ (s : State) (r : Running), s.resetLow = false ∧ s.arbiter.running = some r ∧ r.state = .playing ∧
      r.cursor.samplesLeft ≠ 0) ∧
    (∃ (s : State) (r : Running) (k : FadeKind) (n : Nat), s.resetLow = false ∧ s.arbiter.running = some r ∧
      r.state = .fading k n ∧ n = 31) ∧
    ∃ (s : State) (n : Nat), s.resetLow = false ∧ s.voice.amp = .holding n :=
  ⟨⟨ready, rfl, rfl⟩, ⟨speaking ready (running (speech .queue .host) .playing), _, rfl, rfl, rfl, by decide⟩,
    ⟨speaking ready (running (speech .queue .host) (.fading .restore 31)), _, .restore, 31, rfl, rfl, rfl, rfl⟩,
    ⟨{ ready with voice := { ready.voice with amp := .holding 1600 } }, 1600, rfl, rfl⟩⟩

/-- Refusals in DOZE, of a wrong size, of 25 items and of a GAP of 256; and twenty-four items at the bounds of their operands,
a WORD among them with an operand of its own, with the QUEUE list at 15 and at 16 and the NOW slot empty and filled. -/
theorem witness_HostSpeechCommands :
    (∃ s u : State, Takes s ⟨0x30, 9, []⟩ u ∧ s.op = .doze) ∧ (∃ s u : State, Takes s ⟨0x31, 9, [0]⟩ u ∧ s.op = .ready) ∧
    (∃ s u : State, ∃ p : List Byte, Takes s ⟨0x30, 9, p⟩ u ∧ s.op = .ready ∧ p.length = 2 + 3 * field p 1 ∧
      field p 1 = 25) ∧
    (∃ s u : State, ∃ p : List Byte, Takes s ⟨0x31, 9, p⟩ u ∧ s.op = .ready ∧ p.length = 2 + 3 * field p 1 ∧
      field p 1 = 1 ∧ field p 2 = 6 ∧ field16 p 3 = 256) ∧
    let ws : List (Item × List Byte) :=
      List.replicate 22 (.gap 255, itemBytes (.gap 255)) ++ [(.word, [4, 7, 8]), (.letter 28, itemBytes (.letter 28))]
    let payload := flagByte true :: byteOf ws.length :: ws.flatMap Prod.snd
    ws.length = 24 ∧
    (∀ w ∈ ws, w.1.inRange = true ∧
      (w.2 = itemBytes w.1 ∨ (w.1 = .word ∧ ∃ x y, w.2 = [4, x, y]) ∨ (w.1 = .sentence ∧ ∃ x y, w.2 = [5, x, y]))) ∧
    (∃ s u : State, s.op = .ready ∧ Takes s ⟨0x30, 9, payload⟩ u ∧ (s.place .queue).pending.length = 16) ∧
    (∃ s u : State, s.op = .ready ∧ Takes s ⟨0x30, 9, payload⟩ u ∧ (s.place .queue).pending.length = 15) ∧
    (∃ s u : State, s.op = .ready ∧ Takes s ⟨0x31, 9, payload⟩ u ∧ (s.place .now).pending ≠ []) ∧
    ∃ s u : State, s.op = .ready ∧ Takes s ⟨0x31, 9, payload⟩ u ∧ (s.place .now).pending = [] := by
  refine ⟨⟨_, _, takes_frame { ready with op := .doze } 0x30 [] rfl rfl (by decide), rfl⟩,
    ⟨_, _, takes_frame ready 0x31 [0] rfl rfl (by decide), rfl⟩,
    ⟨_, _, _, takes_frame ready 0x30 ([0, 25] ++ (List.replicate 25 [4, 0, 0]).flatten) rfl rfl (by decide), rfl, rfl, rfl⟩,
    ⟨_, _, _, takes_frame ready 0x31 [0, 1, 6, 0, 1] rfl rfl (by decide), rfl, rfl, rfl, rfl, rfl⟩, ?_⟩
  intro ws payload
  refine ⟨by decide, ?_, ?_, ?_, ?_, ?_⟩
  · intro w hw
    rcases List.mem_append.mp hw with h | h
    · obtain rfl := List.eq_of_mem_replicate h
      exact ⟨by decide, .inl rfl⟩
    · obtain rfl | h := List.mem_cons.mp h
      · exact ⟨rfl, .inr (.inl ⟨rfl, 7, 8, rfl⟩)⟩
      · obtain rfl := List.eq_of_mem_singleton h
        exact ⟨by decide, .inl rfl⟩
  · exact ⟨_, _, rfl, takes_frame (withList ready .queue (List.replicate 16 (speech .queue .host))) 0x30 payload rfl rfl
      (by decide), rfl⟩
  · exact ⟨_, _, rfl, takes_frame (withList ready .queue (List.replicate 15 (speech .queue .host))) 0x30 payload rfl rfl
      (by decide), rfl⟩
  · exact ⟨_, _, rfl, takes_frame (withList ready .now [speech .now .host]) 0x31 payload rfl rfl (by decide),
      List.cons_ne_nil _ _⟩
  · exact ⟨_, _, rfl, takes_frame ready 0x31 payload rfl rfl (by decide), rfl⟩

theorem witness_CutAndFlush :
    (∃ s u : State, Takes s ⟨0x32, 9, []⟩ u ∧ s.op ≠ .ready) ∧ (∃ s u : State, Takes s ⟨0x33, 9, [1]⟩ u ∧ s.op = .ready) ∧
    (∃ s u : State, Takes s ⟨0x32, 9, []⟩ u ∧ s.op = .ready ∧ s.arbiter.running = none) ∧
    (∃ (s u : State) (r : Running), Takes s ⟨0x32, 9, []⟩ u ∧ s.op = .ready ∧ s.arbiter.running = some r) ∧
    ∃ s u : State, Takes s ⟨0x33, 9, []⟩ u ∧ s.op = .ready ∧ (s.place .queue).pending ≠ [] :=
  ⟨⟨_, _, takes_frame State.reset 0x32 [] rfl rfl (by decide), by decide⟩,
    ⟨_, _, takes_frame ready 0x33 [1] rfl rfl (by decide), rfl⟩, ⟨_, _, takes_frame ready 0x32 [] rfl rfl (by decide), rfl, rfl⟩,
    ⟨_, _, _, takes_frame (speaking ready (running (speech .queue .host) .playing)) 0x32 [] rfl rfl (by decide), rfl, rfl⟩,
    ⟨_, _, takes_frame (withList ready .queue [speech .queue .host]) 0x33 [] rfl rfl (by decide), rfl, List.cons_ne_nil _ _⟩⟩

theorem witness_CueTimerCountsAndExpires :
    (∃ s : State, s.resetLow = false ∧ s.timerState = .counting ∧ s.cue.remaining = 2) ∧
    (∃ s : State, s.resetLow = false ∧ s.timerState = .counting ∧ s.cue.remaining = 1 ∧ s.cue.limit = s.cue.stretch) ∧
    (∃ s : State, s.resetLow = false ∧ s.timerState = .counting ∧ s.cue.remaining = 1 ∧ s.cue.stretch < s.cue.limit ∧
      (s.place .cue).pending ≠ []) ∧
    ∃ s : State, s.resetLow = false ∧ s.timerState = .counting ∧ s.cue.remaining = 1 ∧ s.cue.stretch + 1 = s.cue.limit ∧
      (s.place .cue).pending = [] :=
  ⟨⟨counting 2 0, rfl, by decide, rfl⟩, ⟨counting 1 2, rfl, by decide, rfl, rfl⟩,
    ⟨withList (counting 1 0) .cue [speech .cue .cuePrompt], rfl, by decide, rfl, by decide, List.cons_ne_nil _ _⟩,
    ⟨counting 1 1, rfl, by decide, rfl, rfl, rfl⟩⟩

/-- A state with an assembler in a state of its own. -/
def receiving (st : RxState) (body : List Byte) (sum : Byte) (expected : Nat) : State :=
  { ready with link := { ready.link with assembler := ⟨st, body, sum, expected, 0⟩ } }

theorem witness_AssemblerTakesEachByte :
    (∃ (s : State) (c : Instr), s.resetLow = false ∧ c = .receivedByte 0xC3 ∧ s.link.assembler.state = .hunt) ∧
    (∃ (s : State) (c : Instr), s.resetLow = false ∧ c = .receivedByte 250 ∧ s.link.assembler.state = .length) ∧
    (∃ (s : State) (c : Instr), s.resetLow = false ∧ c = .frameReceived 1 ∧ s.link.assembler.state = .length) ∧
    (∃ (s : State) (c : Instr), s.resetLow = false ∧ c = .receivedByte 7 ∧ s.link.assembler.state = .body ∧
      s.link.assembler.expected = 1) ∧
    (∃ (s : State) (c : Instr), s.resetLow = false ∧ c = .frameReceived 7 ∧ s.link.assembler.state = .check ∧
      s.link.assembler.sum + 7 ≠ 0) ∧
    (∃ (s : State) (c : Instr) (k tag : Byte) (p : List Byte), s.resetLow = false ∧ c = .frameReceived 0xF8 ∧
      s.link.assembler.state = .check ∧ s.link.assembler.sum + 0xF8 = 0 ∧ s.link.assembler.body = k :: tag :: p) ∧
    (∃ s : State, s.resetLow = false ∧ s.link.assembler.state ≠ .hunt) ∧
    ∃ (s u : State) (k tag : Byte) (p : List Byte), k ∉ Config.commandKinds ∧ Takes s ⟨k, tag, p⟩ u :=
  ⟨⟨receiving .hunt [] 0 0, _, rfl, rfl, rfl⟩, ⟨receiving .length [] 0 0, _, rfl, rfl, rfl⟩,
    ⟨receiving .length [] 0 0, _, rfl, rfl, rfl⟩, ⟨receiving .body [1] 3 1, _, rfl, rfl, rfl, rfl⟩,
    ⟨receiving .check [1, 5] 8 0, _, rfl, rfl, rfl, by decide⟩,
    ⟨receiving .check [1, 5] 8 0, _, 1, 5, [], rfl, rfl, rfl, by decide, rfl⟩, ⟨receiving .body [] 2 2, rfl, by decide⟩,
    _, _, 0x34, 9, [1], by decide, takes_frame ready 0x34 [1] rfl rfl (by decide)⟩

theorem witness_WholeFrameReachesTheInbox :
    ∃ (s : State) (p : List Byte), s.resetLow = false ∧ s.link.assembler.state = .hunt ∧ s.link.inbox.length = 1 ∧
      p.length = 248 :=
  ⟨withFrame ready 0x01 [], List.replicate 248 7, rfl, rfl, rfl, List.length_replicate⟩

/-- A state with a frame in transmission and perhaps a held notice. -/
def sending (f : OutFrame) (h : Option Notice) : State :=
  { ready with ring := ⟨[], 5⟩, link := { ready.link with transmitting := some f, held := h } }

theorem witness_TransmitterSendsInOrder :
    (∃ (s : State) (f : OutFrame) (rest : List OutFrame), s.resetLow = false ∧ s.link.transmitting = none ∧
      s.link.outbox = f :: rest) ∧
    (∃ (s : State) (f : OutFrame), s.resetLow = false ∧ s.link.transmitting = some f ∧ f.hasKind .ringOverrun = false ∧
      s.link.held = none) ∧
    (∃ (s : State) (f : OutFrame) (h : Notice), s.resetLow = false ∧ s.link.transmitting = some f ∧
      f.hasKind .ringOverrun = false ∧ s.link.held = some h ∧ f.hasKind h.kind = true) ∧
    ∃ (s : State) (carried : Nat), s.resetLow = false ∧ s.link.transmitting = some (.notice (.ringOverrun carried)) ∧
      s.link.heldBehindOwnKind = true ∧ s.ring.lost = carried + 2 :=
  ⟨⟨State.reset, _, [], rfl, rfl, rfl⟩, ⟨sending (.notice (.woke 3)) none, _, rfl, rfl, rfl, rfl⟩,
    ⟨sending (.notice (.woke 3)) (some (.woke 4)), _, .woke 4, rfl, rfl, rfl, rfl, rfl⟩,
    ⟨sending (.notice (.ringOverrun 3)) none, 3, rfl, rfl, rfl, rfl⟩⟩

theorem witness_RaisesEnterMergeOrAreHeld :
    (∃ (l : Link) (n : Notice), (l.transmitting.all fun f => !f.hasKind n.kind) = true ∧
      ∀ f ∈ l.outbox, f.hasKind n.kind = false) ∧
    (∃ (l : Link) (n old : Notice), (l.transmitting.all fun f => !f.hasKind n.kind) = true ∧
      l.outbox = [] ++ .notice old :: [] ∧ old.kind = n.kind) ∧
    (∃ (l : Link) (n sent : Notice), l.transmitting = some (.notice sent) ∧ sent.kind = n.kind) ∧
    ∃ old n : Notice, old.kind = n.kind ∧ n.kind ∉ [NoticeKind.keyPass, .said, .wordJudged, .fault, .linkError] :=
  ⟨⟨Link.pinReset, .woke 3, rfl, by decide⟩,
    ⟨{ Link.pinReset with outbox := [.notice (.woke 4)] }, .woke 3, .woke 4, rfl, rfl, rfl⟩,
    ⟨{ Link.pinReset with transmitting := some (.notice (.woke 4)) }, .woke 3, .woke 4, rfl, rfl⟩, .woke 3, .woke 4, rfl,
    by decide⟩

/-- An accepted command, a BEGIN that is refused, and an unknown kind. -/
theorem witness_CommandsAreAnsweredOnce :
    ∀ ck ∈ ([(.cut 9 [], 0x32, []), (.begin 9 [1], 0x02, [1]), (.unknownCommand 0x34 9 [1], 0x34, [1])] :
        List (Instr × Byte × List Byte)),
      ∃ s u : State, ck.1.hostFrame = some (ck.2.1, 9, ck.2.2) ∧ ck.1.wf = true ∧
        (ck.2.1 = 0x02 → s.op ≠ .setup ∨ ck.2.2 ≠ []) ∧ Takes s ⟨ck.2.1, 9, ck.2.2⟩ u := by
  intro ck h
  have hs := takes_frame ready ck.2.1 ck.2.2 rfl rfl (by decide)
  simp only [List.mem_cons, List.not_mem_nil, or_false] at h
  rcases h with rfl | rfl | rfl <;> exact ⟨_, _, rfl, by decide, fun _ => .inl (by decide), hs⟩

/-- A lesson at work: every law holds and a step is taken. -/
def working : State := { typing ⟨9, .letter, 3, .press⟩ with pending := [.takeLetter] }

theorem witness_StepKeepsOutboxLaw : ∃ s t : State, OutboxLaw s ∧ step s = .next t := ⟨working, _, by decide, rfl⟩
theorem witness_StepKeepsFramesGood :
    ∃ (s t : State) (f : OutFrame), FrameLaw s ∧ step s = .next t ∧ t.link.transmitting = some f :=
  ⟨{ State.reset with pending := [.transmitBegin] }, _, .notice (.resetDone .pin), by decide, rfl, rfl⟩
theorem witness_StepKeepsWordCycleLaw : ∃ s t : State, WordCycleLaw s ∧ step s = .next t := ⟨working, _, by decide, rfl⟩
theorem witness_StepKeepsBounds : ∃ s t : State, CapacityLaw s ∧ SettingsLaw s ∧ step s = .next t :=
  ⟨working, _, by decide, by decide, rfl⟩
theorem witness_StepKeepsSpeechLaws : ∃ s t : State, PlaceLaw s ∧ SpeakerLaw s ∧ step s = .next t :=
  ⟨working, _, by decide, by decide, rfl⟩
/-- GO is taken with a hint waiting in VERDICT, which judging begin withdraws (03 R54). -/
def hintWaiting : State :=
  { (typing ⟨9, .go, 0, .press⟩).putPlace .verdict ⟨[partUtterance .verdict .hint [.letter 3]], none⟩ with
    pending := [.takeGo] }
theorem witness_StepKeepsVerdictLaw : ∃ s t : State, PlaceLaw s ∧ WordCycleLaw s ∧ VerdictLaw s ∧ step s = .next t :=
  ⟨hintWaiting, _, by decide, by decide, by decide, rfl⟩
/-- An ECHO has no place in VERDICT (05 R86). -/
theorem test_verdict_law_refuses_an_echo :
    ¬VerdictLaw (working.putPlace .verdict ⟨[partUtterance .verdict .echo [.letter 3]], none⟩) := by decide
theorem witness_StepKeepsScannerLaw : ∃ s t : State, ScannerLaw s ∧ step s = .next t := ⟨working, _, by decide, rfl⟩
theorem witness_BankAndTalliesAreKept :
    ∃ (c : Instr) (s t : State), exec c s = .next t ∧ SettingsLaw s ∧ c ≠ .pinReset ∧ c ≠ .resetnRelease ∧
      ∀ tag p, c ≠ .setWindow tag p :=
  ⟨.takeLetter, working, _, rfl, by decide, by decide, by decide, fun _ _ => nofun⟩

end Sys2Proof.Tests
end

section
/-! PROOFS. Reading a command's payload (11 R172 to R175): the codes that have a meaning, the records of a run, and what the
readings of a run are. -/

namespace Sys2Proof.Machine

/-! ### Codes that have a meaning -/

theorem le_of_flagOf {n : Nat} (h : (flagOf n).isSome = true) : n ≤ 1 := by
  unfold flagOf at h
  split at h <;> first | omega | cases h

theorem le_of_checkModeOf {n : Nat} (h : (checkModeOf n).isSome = true) : n ≤ 1 := by
  unfold checkModeOf at h
  split at h <;> first | omega | cases h

theorem le_of_markRuleOf {n : Nat} (h : (markRuleOf n).isSome = true) : n ≤ 1 := by
  unfold markRuleOf at h
  split at h <;> first | omega | cases h

theorem le_of_echoPolicyOf {n : Nat} (h : (echoPolicyOf n).isSome = true) : n ≤ 2 := by
  unfold echoPolicyOf at h
  split at h <;> first | omega | cases h

theorem le_of_mapModeOf {n : Nat} (h : (mapModeOf n).isSome = true) : n ≤ 3 := by
  unfold mapModeOf at h
  split at h <;> first | omega | cases h

theorem isSome_passEdgeOf (n : Nat) : (passEdgeOf n).isSome = true ↔ n ≤ 2 := by
  match n with
  | 0 | 1 | 2 => simp [passEdgeOf]
  | n + 3 => simp [passEdgeOf]

theorem isSome_roleOf (n : Nat) : (roleOf n).isSome = true ↔ n ≤ 7 := by
  match n with
  | 0 | 1 | 2 | 3 | 4 | 5 | 6 | 7 => simp [roleOf]
  | n + 8 => simp [roleOf]

theorem roleOf_eq_letter (n : Nat) : roleOf n = some .letter ↔ n = 1 := by
  match n with
  | 0 | 1 | 2 | 3 | 4 | 5 | 6 | 7 => simp [roleOf]
  | n + 8 => simp [roleOf]

/-- A key record that has a meaning (01 R10): its role and its symbol are defined, and a LETTER has a symbol. -/
def KeyRecordOk (role symbol : Nat) : Prop := role ≤ 7 ∧ symbol ≤ 28 ∧ (role = 1 → 1 ≤ symbol)

theorem keyRecordOf_of_ok {r : List Byte} (h : KeyRecordOk (field r 0) (field r 1)) :
    keyRecordOf r = (roleOf (field r 0)).map fun role => ⟨role, field r 1⟩ := by
  obtain ⟨-, hsym, hletter⟩ := h
  unfold keyRecordOf
  split
  · next hr => simp [hr]
  · next hr =>
    have hone := hletter ((roleOf_eq_letter _).mp hr)
    simp [hr, isSymbol, hone, hsym]
  · next role _ hr => simp [hr, hsym]

theorem isSome_keyRecordOf (r : List Byte) :
    (keyRecordOf r).isSome = true ↔ KeyRecordOk (field r 0) (field r 1) := by
  constructor
  · intro h
    unfold keyRecordOf at h
    split at h
    · cases h
    · next hr =>
      have hrole := (isSome_roleOf _).mp (Option.isSome_of_eq_some hr)
      have hsym : isSymbol (field r 1) = true := Decidable.byContradiction fun hno => by
        rw [if_neg hno] at h
        cases h
      obtain ⟨hlow, hhigh⟩ := of_decide_eq_true hsym
      exact ⟨hrole, hhigh, fun _ => hlow⟩
    · next role hne hr =>
      have hrole := (isSome_roleOf _).mp (Option.isSome_of_eq_some hr)
      have hsym : field r 1 ≤ 28 := Decidable.byContradiction fun hno => by
        rw [if_neg hno] at h
        cases h
      refine ⟨hrole, hsym, fun hone => ?_⟩
      rw [(roleOf_eq_letter _).mpr hone] at hr
      exact absurd (Option.some.inj hr).symm hne
  · intro h
    rw [keyRecordOf_of_ok h, Option.isSome_map]
    exact (isSome_roleOf _).mpr h.1

/-! ### Runs of records -/

theorem length_records (size n : Nat) (p : List Byte) : (records size n p).length = n := by
  induction n generalizing p with
  | zero => rfl
  | succ n ih => simp [records, ih]

theorem mem_records {size n i : Nat} (p : List Byte) (h : i < n) :
    (p.drop (size * i)).take size ∈ records size n p := by
  induction n generalizing p i with
  | zero => omega
  | succ n ih =>
    cases i with
    | zero => simp [records]
    | succ i =>
      have htail := ih (p.drop size) (i := i) (by omega)
      rw [List.drop_drop, Nat.add_comm, ← Nat.mul_succ] at htail
      exact List.mem_cons_of_mem _ htail

/-- A field of a record is a field of the payload. -/
theorem field_record {size j : Nat} (p : List Byte) (a : Nat) (h : j < size) :
    field ((p.drop a).take size) j = field p (a + j) := by
  simp [field, h, List.getElem?_drop]

/-- A run of records of two bytes each, read record by record. -/
theorem records_flatMap (recs : List (Byte × Byte)) :
    records 2 recs.length (recs.flatMap fun r => [r.1, r.2]) = recs.map fun r => [r.1, r.2] := by
  induction recs with
  | nil => rfl
  | cons r rest ih => simpa [records] using ih

theorem getElem?_of_allSome {α β : Type} {f : α → Option β} {l : List α} {bs : List β} (h : allSome f l = some bs)
    (i : Nat) : bs[i]? = l[i]?.bind f := by
  induction l generalizing bs i with
  | nil => cases h; rfl
  | cons a rest ih =>
    unfold allSome at h
    split at h
    · next b cs hb hcs =>
      cases h
      cases i with
      | zero => simp [hb]
      | succ i => simpa using ih hcs i
    · cases h

theorem length_of_allSome {α β : Type} {f : α → Option β} {l : List α} {bs : List β} (h : allSome f l = some bs) :
    bs.length = l.length := by
  induction l generalizing bs with
  | nil => cases h; rfl
  | cons a rest ih =>
    unfold allSome at h
    split at h
    · next b cs _ hcs => cases h; simp [ih hcs]
    · cases h

theorem isSome_allSome {α β : Type} (f : α → Option β) (l : List α) :
    (allSome f l).isSome = true ↔ ∀ a ∈ l, (f a).isSome = true := by
  induction l with
  | nil => simp [allSome]
  | cons a rest ih =>
    rw [List.forall_mem_cons, ← ih]
    cases hf : f a <;> cases hr : allSome f rest <;> simp [allSome, hf, hr]

/-- With every record of a run from offset `o` read, each record in turn has a reading. -/
theorem isSome_of_allSome_records {β : Type} {f : List Byte → Option β} {size n o i : Nat} {p : List Byte}
    (h : (allSome f (records size n (p.drop o))).isSome = true) (hi : i < n) :
    (f ((p.drop (o + size * i)).take size)).isSome = true := by
  rw [← List.drop_drop]
  exact (isSome_allSome _ _).mp h _ (mem_records _ hi)

/-! ### A run stored in a table -/

theorem length_splice {α : Type} {l run : List α} {first : Nat} (h : first + run.length ≤ l.length) :
    (splice l first run).length = l.length := by
  simp only [splice, List.length_append, List.length_take, List.length_drop]
  omega

/-- A run replaces the entries from its first place on and leaves the others. -/
theorem getElem?_splice {α : Type} {l run : List α} {first : Nat} (h : first + run.length ≤ l.length) (i : Nat) :
    (splice l first run)[i]? = if first ≤ i ∧ i < first + run.length then run[i - first]? else l[i]? := by
  have hfirst : (l.take first).length = first := by rw [List.length_take]; omega
  rw [splice, List.append_assoc]
  by_cases hlow : i < first
  · rw [List.getElem?_append_left (by omega), List.getElem?_take_of_lt hlow, if_neg (by omega)]
  · rw [List.getElem?_append_right (by omega), hfirst]
    by_cases hhigh : i < first + run.length
    · rw [List.getElem?_append_left (by omega), if_pos (by omega)]
    · rw [List.getElem?_append_right (by omega), List.getElem?_drop, if_neg (by omega)]
      congr 1
      omega

end Sys2Proof.Machine
end

section
/-! PROOFS. Every step keeps the bounds of the stores and the ranges of the settings (O56). The two laws are cut into one
bound for each block (`State.Bounded`); a block's replacement keeps the bounds when the new block has its own, the shared
operations are chains of such replacements, and each row of the table is a chain of shared operations. -/

namespace Sys2Proof.Machine

/-! ### The bounds of each block -/

/-- 01 R3. -/
def Scanner.Bounded (k : Scanner) : Prop := 1 ≤ k.debounce ∧ k.debounce ≤ 8

/-- 01 R11, R12. -/
def Ring.Bounded (r : Ring) : Prop := r.events.length ≤ Config.ringCapacity ∧ r.lost ≤ Config.lostTop

/-- 02 R18. -/
def Intake.Bounded (i : Intake) : Prop := i.attempt.length ≤ Config.attemptCapacity

/-- 03 R40, R41, R55. -/
structure Cycle.Bounded (c : Cycle) : Prop where
  words : c.words.length ≤ Config.tableCapacity
  results : c.results.length = 32
  index : c.index < 32
  tries : 1 ≤ c.triesPerWord ∧ c.triesPerWord ≤ 7

/-- 04 R64, R78, R79. -/
structure Judge.Bounded (j : Judge) : Prop where
  threshold : 50 ≤ j.closeThreshold ∧ j.closeThreshold ≤ 99
  window : j.windowStart ≤ 31 ∧ 1 ≤ j.windowLength ∧ j.windowLength ≤ 32
  tallies : j.letterErrors ≤ Config.tallyTop ∧ j.attemptsJudged ≤ Config.tallyTop ∧ j.exactCount ≤ Config.tallyTop
  pairs : j.pairs.length ≤ Config.pairCapacity

/-- A source other than VERDICT holds at most its capacity (05 R86). -/
def Place.Within (p : Place) (src : Source) : Prop := src ≠ .verdict → p.pending.length ≤ src.capacity

/-- 05 R86, R94, the VERDICT list apart. -/
structure Sources.Bounded (b : Sources) : Prop where
  places : ∀ src, (b.places.get src).Within src
  phrases : b.phrases.length = 8

/-- 05 R92, 06 R118. -/
structure Arbiter.Bounded (a : Arbiter) : Prop where
  levels : ∀ src, (a.settings.get src).level ≤ 3
  lowMark : a.lowMark ≤ 15

/-- 07 R128, R131. -/
structure CueTimer.Bounded (c : CueTimer) : Prop where
  reload : 1 ≤ c.reload ∧ c.reload ≤ 600
  boundary : c.boundary ≤ 600
  limit : c.limit ≤ 7
  remaining : c.remaining ≤ 600
  counts : c.running = true → 1 ≤ c.remaining

/-- 08 R137. -/
def Voice.Bounded (v : Voice) : Prop := v.letterMap.length = 28

/-- Every block is within its bounds. -/
structure State.Bounded (s : State) : Prop where
  scanner : s.scanner.Bounded
  ring : s.ring.Bounded
  intake : s.intake.Bounded
  cycle : s.cycle.Bounded
  judge : s.judge.Bounded
  sources : s.sources.Bounded
  arbiter : s.arbiter.Bounded
  cue : s.cue.Bounded
  voice : s.voice.Bounded

theorem Source.mem_tieOrder (src : Source) : src ∈ tieOrder := by
  cases src <;> decide

/-- The bounds of the blocks are the two laws. -/
theorem State.bounded_iff (s : State) : s.Bounded ↔ CapacityLaw s ∧ SettingsLaw s := by
  constructor
  · rintro ⟨hscan, ⟨hevents, hlost⟩, hattempt, ⟨hwords, hresults, hindex, htries⟩, ⟨hclose, hwindow, htallies, hpairs⟩,
      ⟨hplaces, hphrases⟩, ⟨hlevels, hlow⟩, ⟨hreload, hboundary, hlimit, hremaining, hcounts⟩, hmap⟩
    have hplace : ∀ src, src ≠ .verdict → (s.place src).pending.length ≤ src.capacity := hplaces
    exact ⟨⟨hevents, hlost, hattempt, hwords, hresults, hindex, hplace .now nofun, hplace .echo nofun,
        hplace .word nofun, hplace .cue nofun, hplace .queue nofun⟩,
      hscan, htries, hclose, hwindow, htallies, fun src _ => hlevels src, hlow, hreload, hboundary, hlimit, hremaining,
      hcounts, hpairs, hmap, hphrases⟩
  · rintro ⟨⟨hevents, hlost, hattempt, hwords, hresults, hindex, hnow, hecho, hword, hcue, hqueue⟩, hscan, htries, hclose,
      hwindow, htallies, hlevels, hlow, hreload, hboundary, hlimit, hremaining, hcounts, hpairs, hmap, hphrases⟩
    refine ⟨hscan, ⟨hevents, hlost⟩, hattempt, ⟨hwords, hresults, hindex, htries⟩, ⟨hclose, hwindow, htallies, hpairs⟩,
      ⟨fun src hne => ?_, hphrases⟩, ⟨fun src => hlevels src src.mem_tieOrder, hlow⟩,
      ⟨hreload, hboundary, hlimit, hremaining, hcounts⟩, hmap⟩
    cases src with
    | now => exact hnow
    | echo => exact hecho
    | verdict => exact absurd rfl hne
    | word => exact hword
    | cue => exact hcue
    | queue => exact hqueue

/-! ### Numbers and lists that stay within a bound -/

theorem clamp_within {lo hi : Nat} (h : lo ≤ hi) (n : Nat) : lo ≤ clamp lo hi n ∧ clamp lo hi n ≤ hi := by
  unfold clamp
  omega

theorem saturatingAdd_le (top n k : Nat) : saturatingAdd top n k ≤ top := Nat.min_le_left _ _

theorem length_push_le {α : Type} {l : List α} {a : α} {n : Nat} (h : l.length < n) : (l ++ [a]).length ≤ n := by
  rw [List.length_append]
  exact h

theorem length_addPairs_le (held ps : List (Nat × Nat)) : (addPairs held ps).length ≤ held.length + ps.length := by
  induction ps generalizing held with
  | nil => exact Nat.le_refl _
  | cons p rest ih =>
    have hkeep := ih held
    have hadd := ih (held ++ [p])
    simp only [List.length_append, List.length_cons, List.length_nil] at hadd ⊢
    unfold addPairs
    split <;> omega

theorem length_withdrawNewest_le (sym : Nat) (us : List Utterance) : (withdrawNewest sym us).length ≤ us.length := by
  induction us with
  | nil => exact Nat.le_refl _
  | cons u rest ih =>
    unfold withdrawNewest
    split
    · simpa using ih
    · split <;> simp

/-! ### Blocks that change within their bounds -/

theorem Ring.Bounded.pop {r : Ring} (h : r.Bounded) : ({ r with events := r.events.tail } : Ring).Bounded :=
  ⟨Nat.le_trans (by simp) h.1, h.2⟩

theorem Place.Within.nil (src : Source) (backup : Option Utterance) : (⟨[], backup⟩ : Place).Within src :=
  fun _ => Nat.zero_le _

/-- A place that lost utterances is within its capacity. -/
theorem Place.Within.of_le {p q : Place} {src : Source} (h : p.Within src) (hle : q.pending.length ≤ p.pending.length) :
    q.Within src :=
  fun hne => Nat.le_trans hle (h hne)

theorem Sources.Bounded.set {b : Sources} (h : b.Bounded) {src : Source} {p : Place} (hp : p.Within src) :
    ({ b with places := b.places.set src p } : Sources).Bounded := by
  refine ⟨fun r => ?_, h.phrases⟩
  by_cases hr : r = src
  · subst hr
    simpa using hp
  · simpa [PerSource.get_set_ne _ _ hr] using h.places r

theorem Sources.Bounded.sweepLesson {b : Sources} (h : b.Bounded) :
    ({ b with places := b.places.sweepLesson } : Sources).Bounded := by
  refine ⟨fun src => ?_, h.phrases⟩
  rw [PerSource.get_sweepLesson]
  split
  · exact .nil src none
  · exact h.places src

/-- The running place has no bound. -/
theorem Arbiter.Bounded.setRunning {a : Arbiter} (h : a.Bounded) (r : Option Running) :
    ({ a with running := r } : Arbiter).Bounded :=
  ⟨h.levels, h.lowMark⟩

theorem CueTimer.Bounded.loaded {c : CueTimer} (h : c.Bounded) (stretch : Nat) : (c.loaded stretch).Bounded :=
  ⟨h.reload, h.boundary, h.limit, h.reload.2, fun _ => h.reload.1⟩

/-- A stopped timer is within its bounds, whatever its part of a unit and its cues of the stretch. -/
theorem CueTimer.Bounded.halted {c : CueTimer} (h : c.Bounded) (part stretch : Nat) :
    ({ c with running := false, remaining := 0, part := part, stretch := stretch } : CueTimer).Bounded :=
  ⟨h.reload, h.boundary, h.limit, Nat.zero_le _, nofun⟩

/-- The part of a unit and the cues of the stretch have no bound. -/
theorem CueTimer.Bounded.setPart {c : CueTimer} (h : c.Bounded) (part stretch : Nat) :
    ({ c with part := part, stretch := stretch } : CueTimer).Bounded :=
  ⟨h.reload, h.boundary, h.limit, h.remaining, h.counts⟩

/-- The Judge's work and its last judgement have no bound. -/
theorem Judge.Bounded.setWork {j : Judge} (h : j.Bounded) (working : Option JudgingRecord) (last : Option Judgement) :
    ({ j with working := working, last := last } : Judge).Bounded :=
  ⟨h.threshold, h.window, h.tallies, h.pairs⟩

/-- The tallies stop at their top (04 R79). -/
theorem Judge.Bounded.tally {j : Judge} (h : j.Bounded) (v : Judgement) : (j.tally v).Bounded := by
  unfold Judge.tally
  split
  · refine ⟨h.threshold, h.window, ⟨saturatingAdd_le _ _ _, saturatingAdd_le _ _ _, ?_⟩, h.pairs⟩
    show (if v.verdict = .exact then tallyAdd j.exactCount 1 else j.exactCount) ≤ Config.tallyTop
    split
    · exact saturatingAdd_le _ _ _
    · exact h.tallies.2.2
  · exact h

/-- The lesson state and the phase have no bound. -/
theorem Cycle.Bounded.setStates {c : Cycle} (h : c.Bounded) (lesson : LessonState) (phase : Phase) :
    ({ c with lesson := lesson, phase := phase } : Cycle).Bounded :=
  ⟨h.words, h.results, h.index, h.tries⟩

theorem Cycle.Bounded.setResults {c : Cycle} (h : c.Bounded) {rs : List ResultRecord} (hr : rs.length = 32) :
    ({ c with results := rs } : Cycle).Bounded :=
  ⟨h.words, hr, h.index, h.tries⟩

theorem length_clearResults : clearResults.length = 32 := List.length_replicate

/-! ### The replacement of a block -/

namespace State.Bounded

variable {s t : State}

theorem putScanner (h : s.Bounded) {b : Scanner} (hb : b.Bounded) : (s.putScanner b).Bounded := { h with scanner := hb }
theorem putRing (h : s.Bounded) {b : Ring} (hb : b.Bounded) : (s.putRing b).Bounded := { h with ring := hb }
theorem putIntake (h : s.Bounded) {b : Intake} (hb : b.Bounded) : (s.putIntake b).Bounded := { h with intake := hb }
theorem putCycle (h : s.Bounded) {b : Cycle} (hb : b.Bounded) : (s.putCycle b).Bounded := { h with cycle := hb }
theorem putJudge (h : s.Bounded) {b : Judge} (hb : b.Bounded) : (s.putJudge b).Bounded := { h with judge := hb }
theorem putSources (h : s.Bounded) {b : Sources} (hb : b.Bounded) : (s.putSources b).Bounded := { h with sources := hb }
theorem putArbiter (h : s.Bounded) {b : Arbiter} (hb : b.Bounded) : (s.putArbiter b).Bounded := { h with arbiter := hb }
theorem putCue (h : s.Bounded) {b : CueTimer} (hb : b.Bounded) : (s.putCue b).Bounded := { h with cue := hb }
theorem putVoice (h : s.Bounded) {b : Voice} (hb : b.Bounded) : (s.putVoice b).Bounded := { h with voice := hb }
theorem putBank (h : s.Bounded) (b : Bank) : (s.putBank b).Bounded := { h with }
theorem putLink (h : s.Bounded) (b : Link) : (s.putLink b).Bounded := { h with }
theorem putOp (h : s.Bounded) (b : OpState) : (s.putOp b).Bounded := { h with }
theorem setPending (h : s.Bounded) (cs : List Instr) : ({ s with pending := cs } : State).Bounded := { h with }

/-! ### The shared operations -/

theorem raise (h : s.Bounded) (n : Notice) : (s.raise n).Bounded := h.putLink _

theorem reply (h : s.Bounded) (r : Reply) : (s.reply r).Bounded := h.putLink _

theorem spiRead (h : s.Bounded) (a : Nat) : (s.spiRead a).Bounded := h.putBank _

theorem mapRunning (h : s.Bounded) (f : Running → Running) : (s.mapRunning f).Bounded :=
  h.putArbiter (h.arbiter.setRunning _)

theorem cutInTest (h : s.Bounded) : s.cutInTest.Bounded := by
  rcases s.cutInTest_cases with e | ⟨r, -, -, -, e⟩ <;> rw [e]
  · exact h
  · exact h.putArbiter (h.arbiter.setRunning _)

theorem putPlace (h : s.Bounded) {src : Source} {p : Place} (hp : p.Within src) : (s.putPlace src p).Bounded :=
  h.putSources (h.sources.set hp)

theorem place (h : s.Bounded) (src : Source) : (s.place src).Within src := h.sources.places src

/-- An utterance arrives where its source has room; VERDICT is not bounded here. -/
theorem arrive (h : s.Bounded) {u : Utterance}
    (room : u.source ≠ .verdict → (s.place u.source).pending.length < u.source.capacity) : (s.arrive u).Bounded :=
  (h.putPlace fun hne => length_push_le (room hne)).cutInTest

theorem cueLoad (h : s.Bounded) (stretch : Nat) : (s.cueLoad stretch).Bounded :=
  (h.putCue (h.cue.loaded stretch)).cutInTest

theorem cueStop (h : s.Bounded) : s.cueStop.Bounded := (h.putCue (h.cue.halted 0 s.cue.stretch)).cutInTest

theorem clearAttempt (h : s.Bounded) : s.clearAttempt.Bounded := h.putIntake (Nat.zero_le _)

theorem mapResult (h : s.Bounded) (i : Nat) (f : ResultRecord → ResultRecord) : (s.mapResult i f).Bounded :=
  h.putCycle (h.cycle.setResults (by simpa using h.cycle.results))

theorem setStates (h : s.Bounded) (lesson : LessonState) (phase : Phase) :
    (s.putCycle { s.cycle with lesson := lesson, phase := phase }).Bounded :=
  h.putCycle (h.cycle.setStates lesson phase)

/-- The cues of the stretch have no bound. -/
theorem setStretch (h : s.Bounded) (stretch : Nat) : (s.putCue { s.cue with stretch := stretch }).Bounded :=
  h.putCue (h.cue.setPart s.cue.part stretch)

/-- The held set and the intervals have no bound. -/
theorem setMatrix (h : s.Bounded) (held : List HeldEntry) (intervals : List Interval) :
    (s.putScanner { s.scanner with held := held, intervals := intervals }).Bounded :=
  h.putScanner h.scanner

/-- The intake's settings, its flag and its holds have no bound. -/
theorem setFlags (h : s.Bounded) (settings : IntakeSettings) (attemptFull letterHold passHold : Bool) :
    (s.putIntake { s.intake with
      settings := settings, attemptFull := attemptFull, letterHold := letterHold, passHold := passHold }).Bounded :=
  h.putIntake h.intake

/-- The output code and AMP have no bound here. -/
theorem setSpeaker (h : s.Bounded) (output : Nat) (amp : Amp) :
    (s.putVoice { s.voice with output := output, amp := amp }).Bounded :=
  h.putVoice h.voice

theorem sweep (h : s.Bounded) : s.sweep.Bounded := (h.putSources h.sources.sweepLesson).mapRunning _

/-- A word of the table begins. -/
theorem wordBegin (h : s.Bounded) {i : Nat} (hi : i < s.cycle.words.length) : (s.wordBegin i).Bounded := by
  have hindex : i < 32 := Nat.lt_of_lt_of_le hi h.cycle.words
  have hcycle : ({ s.cycle with index := i, results := s.cycle.results.set i ResultRecord.begun } : Cycle).Bounded :=
    ⟨h.cycle.words, by simpa using h.cycle.results, hindex, h.cycle.tries⟩
  have hstopped := (h.putCycle hcycle).cueStop
  have hswept := (hstopped.setStretch 0).clearAttempt.sweep
  exact (hswept.arrive fun _ => by simp [compose, Source.isLesson, Source.capacity]).setStates _ _

theorem lessonFinish (h : s.Bounded) : s.lessonFinish.Bounded := (h.sweep.cueStop.setStates .finished .none).raise _

theorem advance (h : s.Bounded) : s.advance.Bounded := by
  unfold State.advance
  split
  · next hi => exact h.wordBegin hi
  · exact h.lessonFinish

theorem promptStarted (h : s.Bounded) : s.promptStarted.Bounded := by
  unfold State.promptStarted
  split
  · exact (h.setStates _ .answering).cueLoad 0
  · exact h

theorem feedbackEnded (h : s.Bounded) : s.feedbackEnded.Bounded := by
  have hheld : (if s.intake.settings.endHold then s.putCycle { s.cycle with phase := .held } else s.advance).Bounded := by
    split
    · exact h.setStates _ .held
    · exact h.advance
  unfold State.feedbackEnded
  cases s.currentResult.state with
  | opened => exact (h.setStates _ .answering).cueLoad 0
  | exact => exact hheld
  | missed => exact hheld
  | unseen => exact h
  | skipped => exact h

theorem reportEnd (h : s.Bounded) (u : Utterance) (e : EndKind) : (s.reportEnd u e).Bounded := by
  unfold State.reportEnd State.lessonEndReport
  split
  · split
    · exact h.feedbackEnded
    · exact h
  · split
    · exact h.raise _
    · exact h

theorem vacate (h : s.Bounded) : s.vacate.Bounded := (h.putArbiter (h.arbiter.setRunning none)).setSpeaker _ _

theorem endRunning (h : s.Bounded) (u : Utterance) (e : EndKind) : (s.endRunning u e).Bounded := h.vacate.reportEnd u e

theorem abandonJudging (h : s.Bounded) : s.abandonJudging.Bounded := h.putJudge (h.judge.setWork none _)

theorem judgingBegin (h : s.Bounded) : s.judgingBegin.Bounded := by
  have hcounted := h.mapResult s.cycle.index fun r => { r with tries := r.tries + 1 }
  have hdropped := hcounted.putPlace
    ((hcounted.place .verdict).of_le (q := (State.place _ .verdict).dropAsides) (List.length_filter_le _ _))
  exact (hdropped.putJudge (hdropped.judge.setWork _ _)).cueStop.setStates _ .judging

theorem hearRequest (h : s.Bounded) : s.hearRequest.Bounded := by
  unfold State.hearRequest
  split
  · next hg =>
    refine h.arrive fun _ => ?_
    simp only [State.hearGranted, State.holds, Bool.and_eq_true, Bool.not_eq_true', Bool.or_eq_false_iff,
      Bool.not_eq_false', List.isEmpty_iff] at hg
    obtain ⟨⟨-, hempty⟩, -⟩ := hg
    simp [compose, State.place, hempty, Source.capacity]
  · exact h

theorem passTime (h : s.Bounded) : s.passTime.Bounded := by
  unfold State.passTime
  split
  · exact h
  · extract_lets a b
    have ha : a.Bounded := by
      unfold a
      split
      · exact h.putCue (h.cue.setPart _ _)
      · exact h
    exact (ha.setSpeaker _ _).putLink _

theorem wakeUp (h : s.Bounded) : s.wakeUp.Bounded := ((h.setMatrix _ _).putOp .ready).raise _

end State.Bounded

/-! ### Resets -/

theorem State.reset_bounded : State.reset.Bounded := by
  rw [State.bounded_iff]
  decide

theorem State.pinReset_bounded (s : State) : s.pinReset.Bounded := { State.reset_bounded with }

/-! ### What a row answers -/

/-- The next state, if there is one, is within its bounds. -/
def BoundedAfter (o : Host.Outcome State Fault Refusal) : Prop := ∀ t, o = .next t → t.Bounded

theorem BoundedAfter.next {s : State} (h : s.Bounded) : BoundedAfter (.next s) := by
  rintro t ⟨⟩
  exact h

namespace State.Bounded

variable {s : State}

theorem occurs (h : s.Bounded) {cond : Bool} {f : State → State} (hf : cond = true → (f s).Bounded) :
    BoundedAfter (s.occurs cond f) := by
  intro t ht
  rcases State.occurs_cases ht with ⟨-, hc, rfl⟩ | ⟨-, rfl⟩
  · exact hf hc
  · exact h

theorem takeFrame (h : s.Bounded) {f : HostFrame} {t : State} (ht : s.takeFrame f = some t) : t.Bounded := by
  obtain ⟨-, ⟨-, rfl⟩ | ⟨rest, -, rfl⟩⟩ := State.takeFrame_cases ht
  · exact h
  · exact h.putLink _

/-- A command keeps the bounds when its owner does. -/
theorem command (h : s.Bounded) {k tag : Byte} {p : List Byte} {owner : State → Answer}
    (ho : ∀ u : State, u.Bounded → (owner u).state.Bounded) : BoundedAfter (s.command k tag p owner) := by
  intro t ht
  rcases State.command_cases ht with ⟨-, rfl⟩ | ⟨u, hu, rfl⟩
  · exact h
  · exact (ho u (h.takeFrame hu)).reply _

theorem check (h : s.Bounded) {cond : Bool} {r : ResultCode} {k : Answer} (hk : cond = true → k.state.Bounded) :
    (s.check cond r k).state.Bounded := by
  rcases s.check_cases cond r k with ⟨hc, e⟩ | ⟨-, e⟩ <;> rw [e]
  · exact hk hc
  · exact h

theorem lessonSetting (h : s.Bounded) {sizeOk valuesOk : Bool} {k : Answer}
    (hk : sizeOk = true → valuesOk = true → k.state.Bounded) : (s.lessonSetting sizeOk valuesOk k).state.Bounded :=
  h.check fun _ => h.check fun hsize => h.check fun _ => h.check fun hvalues => hk hsize hvalues

theorem readyBare (h : s.Bounded) {p : List Byte} {k : Answer} (hk : k.state.Bounded) :
    (s.readyBare p k).state.Bounded :=
  h.check fun _ => h.check fun _ => hk

theorem lessonCommand (h : s.Bounded) {p : List Byte} {n : Nat} {lessonOk : Bool} {k : Answer} (hk : k.state.Bounded) :
    (s.lessonCommand p n lessonOk k).state.Bounded :=
  h.check fun _ => h.check fun _ => h.check fun _ => hk

/-! ### Operating State Control (10) -/

theorem resetCommand (h : s.Bounded) : s.resetCommand.Bounded := by
  have hclear : s.clearRuntime.Bounded :=
    { scanner := h.scanner
      ring := State.reset_bounded.ring
      intake := State.reset_bounded.intake
      cycle := { State.reset_bounded.cycle with tries := h.cycle.tries }
      judge := h.judge.setWork none none
      sources := ⟨State.reset_bounded.sources.places, h.sources.phrases⟩
      arbiter := h.arbiter.setRunning none
      cue := h.cue.halted 0 0
      voice := h.voice }
  exact ((hclear.putLink _).raise _).putOp .setup

theorem execResetnRelease (h : s.Bounded) : BoundedAfter (execResetnRelease s) := by
  unfold Machine.execResetnRelease
  split
  · exact .next (raise (s := { s.pinReset with resetLow := false }) { s.pinReset_bounded with } _)
  · exact .next h

theorem execReset (h : s.Bounded) (tag : Byte) (p : List Byte) : BoundedAfter (execReset tag p s) := by
  unfold Machine.execReset
  split
  · exact .next h
  · next t ht =>
    have hu := h.takeFrame ht
    split
    · exact .next (hu.reply _).resetCommand
    · exact .next (hu.reply _)

theorem execBegin (h : s.Bounded) (tag : Byte) (p : List Byte) : BoundedAfter (execBegin tag p s) := by
  unfold Machine.execBegin
  split
  · exact .next h
  · next t ht =>
    have hu := h.takeFrame ht
    split
    · exact .next (hu.reply _)
    · split
      · exact .next (hu.putLink _)
      · exact .next (hu.reply _)

theorem execBankCheckComplete (h : s.Bounded) : BoundedAfter (execBankCheckComplete s) := by
  refine h.occurs fun _ => ?_
  have hread := (h.putLink { s.link with begun := none }).spiRead 0
  dsimp only
  split
  · exact hread.reply _
  · exact (((hread.putBank _).setMatrix [] []).putOp .ready).reply _

theorem dozeOff (h : s.Bounded) : s.dozeOff.Bounded := by
  have hoff := (h.setSpeaker Config.silenceCode .inactive).putOp .doze
  unfold State.dozeOff
  dsimp only
  split
  · exact hoff
  · exact hoff.wakeUp

theorem execDoze (h : s.Bounded) (tag : Byte) (p : List Byte) : BoundedAfter (execDoze tag p s) := by
  unfold Machine.execDoze
  split
  · exact .next h
  · next t ht =>
    have hu := h.takeFrame ht
    split
    · exact .next (hu.reply _)
    · split
      · exact .next (hu.reply _)
      · split
        · exact .next (hu.reply _).dozeOff
        · exact .next (hu.reply _)

theorem execWake (h : s.Bounded) (tag : Byte) (p : List Byte) : BoundedAfter (execWake tag p s) :=
  h.command fun _ hu => hu.check fun _ => hu.check fun _ => hu.putOp .ready

theorem execStatus (h : s.Bounded) (tag : Byte) (p : List Byte) : BoundedAfter (execStatus tag p s) :=
  h.command fun _ hu => hu.check fun _ => hu

/-! ### Keys and their ring (01) -/

theorem offer (h : s.Bounded) (e : KeyEvent) : (s.offer e).Bounded := by
  unfold State.offer
  split
  · exact h
  · split
    · next hroom => exact h.putRing ⟨length_push_le hroom, h.ring.2⟩
    · exact (h.putRing (b := ⟨s.ring.events, saturatingAdd _ _ _⟩) ⟨h.ring.1, saturatingAdd_le _ _ _⟩).raise _

theorem execScan (h : s.Bounded) (raw : BitVec 64) : BoundedAfter (execScan raw s) :=
  h.occurs fun _ => h.putScanner h.scanner

theorem execPressIntervalComplete (h : s.Bounded) (p : Nat) : BoundedAfter (execPressIntervalComplete p s) := by
  refine h.occurs fun _ => ?_
  have hpress : (s.putScanner (s.scanner.press p)).Bounded := h.putScanner h.scanner
  dsimp only
  split
  · exact hpress.offer _
  · exact hpress

theorem execReleaseIntervalComplete (h : s.Bounded) (p : Nat) : BoundedAfter (execReleaseIntervalComplete p s) := by
  refine h.occurs fun _ => ?_
  have hrelease : (s.putScanner (s.scanner.release p)).Bounded := h.putScanner h.scanner
  dsimp only
  split
  · exact hrelease.offer _
  · exact hrelease

theorem execWakingPress (h : s.Bounded) : BoundedAfter (execWakingPress s) := by
  have hpresses : ∀ (ps : List Nat) (k : Scanner), k.Bounded → (ps.foldl Scanner.press k).Bounded := by
    intro ps
    induction ps with
    | nil => exact fun _ hk => hk
    | cons p rest ih => exact fun k hk => ih (k.press p) hk
  exact h.occurs fun _ => (h.putScanner (hpresses _ _ h.scanner)).wakeUp

theorem execSetKeys (h : s.Bounded) (tag : Byte) (p : List Byte) : BoundedAfter (execSetKeys tag p s) :=
  h.command fun _ hu => hu.check fun _ => hu.check fun _ => hu.check fun _ =>
    hu.putScanner (clamp_within (by decide) _)

/-! ### The Key Intake (02) -/

theorem popHead (h : s.Bounded) : s.popHead.Bounded := h.putRing h.ring.pop

theorem execTakePass (h : s.Bounded) : BoundedAfter (execTakePass s) := by
  refine h.occurs fun _ => ?_
  split
  · exact h
  · have hraised := h.popHead.raise
    dsimp only
    split
    · exact (hraised _).putIntake h.intake
    · exact hraised _

theorem execDiscardHead (h : s.Bounded) : BoundedAfter (execDiscardHead s) := h.occurs fun _ => h.popHead

theorem guidedRefusal (h : s.Bounded) : s.guidedRefusal.Bounded := by
  unfold State.guidedRefusal
  extract_lets a judge b
  have ha : a.Bounded := h.mapResult _ _
  have hb : b.Bounded := by
    unfold b
    split
    · have hj := ha.judge
      exact ha.putJudge ⟨hj.threshold, hj.window, ⟨saturatingAdd_le _ _ _, hj.tallies.2⟩, hj.pairs⟩
    · exact ha
  split
  · exact hb.arrive fun hne => absurd rfl hne
  · exact hb

theorem echoOffer (h : s.Bounded) {u : Utterance} (hu : u.source = .echo) : (s.echoOffer u).Bounded := by
  have hroom : ∀ {t : State}, t.Bounded → (t.place .echo).pending.length < Config.shortListCapacity →
      (t.arrive u).Bounded := by
    intro t ht hlt
    exact ht.arrive fun _ => by rw [hu]; exact hlt
  unfold State.echoOffer
  split
  · split
    · next hlt => exact hroom h hlt
    · exact h
  · exact hroom (h.putPlace (.nil .echo _)) (by simp [Config.shortListCapacity])
  · exact hroom ((h.putPlace (.nil .echo none)).mapRunning _) (by simp [State.mapRunning, Config.shortListCapacity])

theorem letterAppended (h : s.Bounded) (sym : Nat) : (s.letterAppended sym).Bounded := by
  unfold State.letterAppended
  extract_lets a b
  have hb : b.Bounded := (h.echoOffer (u := compose .echo .echo [.letter sym]) rfl).cueLoad 0
  split
  · exact hb.setFlags _ _ _ _
  · exact hb

theorem letterTyped (h : s.Bounded) (sym : Nat) : (s.letterTyped sym).Bounded := by
  unfold State.letterTyped
  split
  · next hroom =>
    have hpushed := h.putIntake (b := { s.intake with attempt := s.intake.attempt ++ [sym] }) (length_push_le hroom)
    exact hpushed.letterAppended sym
  · split
    · exact h
    · exact (h.setFlags _ _ _ _).raise _

theorem execTakeLetter (h : s.Bounded) : BoundedAfter (execTakeLetter s) := by
  refine h.occurs fun _ => ?_
  split
  · exact h
  · dsimp only
    split
    · exact h.popHead.letterTyped _
    · exact h.popHead.guidedRefusal

theorem rubout (h : s.Bounded) : s.rubout.Bounded := by
  unfold State.rubout
  split
  · exact h
  · have hshort := h.putIntake (b := { s.intake with attempt := s.intake.attempt.dropLast })
      (Nat.le_trans (by simp) h.intake)
    exact hshort.putPlace ((hshort.place .echo).of_le (length_withdrawNewest_le _ _))

theorem execTakeRubout (h : s.Bounded) : BoundedAfter (execTakeRubout s) := h.occurs fun _ => h.popHead.rubout.cueLoad _

theorem submit (h : s.Bounded) : s.submit.Bounded := by
  unfold State.submit
  split
  · exact h.hearRequest
  · exact h.judgingBegin

theorem execTakeGo (h : s.Bounded) : BoundedAfter (execTakeGo s) := h.occurs fun _ => h.popHead.submit

theorem execTakeSpace (h : s.Bounded) : BoundedAfter (execTakeSpace s) := by
  refine h.occurs fun _ => ?_
  split
  · exact h.popHead.submit
  · exact h.popHead

theorem execTakeHear (h : s.Bounded) : BoundedAfter (execTakeHear s) := h.occurs fun _ => h.popHead.hearRequest

theorem hint (h : s.Bounded) : s.hint.Bounded := by
  unfold State.hint
  split
  · split
    · exact (h.mapResult _ _).arrive fun hne => absurd rfl hne
    · exact h.arrive fun hne => absurd rfl hne
  · exact h

theorem execTakeHint (h : s.Bounded) : BoundedAfter (execTakeHint s) := h.occurs fun _ => h.popHead.hint

theorem execSetIntake (h : s.Bounded) (tag : Byte) (p : List Byte) : BoundedAfter (execSetIntake tag p s) :=
  h.command fun _ hu => hu.lessonSetting fun _ _ => hu.putIntake hu.intake

/-- A RELEASE row keeps the bounds when its owner does (02 R35, log 11). -/
theorem releaseCommand (h : s.Bounded) {target : Nat} {tag : Byte} {p : List Byte} {owner : State → Answer}
    (ho : ∀ u : State, u.Bounded → (owner u).state.Bounded) : BoundedAfter (s.releaseCommand target tag p owner) := by
  unfold State.releaseCommand
  split
  · exact h.command fun u hu => hu.check fun _ => hu.check fun _ => hu.check fun _ => ho u hu
  · exact .next h

theorem execReleaseLetter (h : s.Bounded) (tag : Byte) (p : List Byte) : BoundedAfter (execReleaseLetter tag p s) :=
  h.releaseCommand fun _ hu => hu.check fun _ => hu.putIntake hu.intake

theorem execReleasePass (h : s.Bounded) (tag : Byte) (p : List Byte) : BoundedAfter (execReleasePass tag p s) :=
  h.releaseCommand fun _ hu => hu.check fun _ => hu.putIntake hu.intake

theorem execReleaseWord (h : s.Bounded) (tag : Byte) (p : List Byte) : BoundedAfter (execReleaseWord tag p s) :=
  h.releaseCommand fun _ hu => hu.check fun _ => hu.advance

/-! ### The Judge (04) -/

theorem judged (h : s.Bounded) (v : Judgement) : (s.judged v).Bounded := by
  unfold State.judged
  extract_lets triesLeft a b c
  have ha : a.Bounded := h.mapResult _ _
  have hb : b.Bounded := by
    unfold b
    split
    · exact ha.clearAttempt
    · exact ha
  have hverdict : (b.feedback v.verdict triesLeft).source = .verdict := by
    unfold State.feedback
    split <;> rfl
  exact (hb.arrive fun hne => absurd hverdict hne).setStates _ .feedback

theorem execJudgingComplete (h : s.Bounded) : BoundedAfter (execJudgingComplete s) := by
  refine h.occurs fun _ => ?_
  split
  · exact h
  · exact ((h.putJudge ((h.judge.tally _).setWork _ _)).judged _).raise _

theorem execSetPairs (h : s.Bounded) (tag : Byte) (p : List Byte) : BoundedAfter (execSetPairs tag p s) := by
  refine h.command fun u hu => hu.lessonSetting fun hsize _ => ?_
  have hcount : field p 0 ≤ Config.pairCapacity := (of_decide_eq_true hsize).2.1
  have hpairs : (addPairs [] (pairsOf p)).length ≤ Config.pairCapacity :=
    Nat.le_trans (length_addPairs_le _ _) (by simpa [pairsOf, length_records] using hcount)
  exact hu.putJudge ⟨hu.judge.threshold, hu.judge.window, hu.judge.tallies, hpairs⟩

theorem execSetJudge (h : s.Bounded) (tag : Byte) (p : List Byte) : BoundedAfter (execSetJudge tag p s) := by
  refine h.command fun u hu => hu.lessonSetting fun _ _ => ?_
  have hc := hu.cycle
  refine State.Bounded.putCycle (hu.putJudge ?_) ⟨hc.words, hc.results, hc.index, clamp_within (by decide) _⟩
  exact ⟨clamp_within (by decide) _, hu.judge.window, hu.judge.tallies, hu.judge.pairs⟩

theorem execSetWindow (h : s.Bounded) (tag : Byte) (p : List Byte) : BoundedAfter (execSetWindow tag p s) := by
  refine h.command fun u hu => hu.check fun _ => hu.check fun _ => hu.check fun hvalues => ?_
  exact hu.putJudge ⟨hu.judge.threshold, of_decide_eq_true hvalues, ⟨Nat.zero_le _, Nat.zero_le _, Nat.zero_le _⟩,
    hu.judge.pairs⟩

theorem execGetTally (h : s.Bounded) (tag : Byte) (p : List Byte) : BoundedAfter (execGetTally tag p s) :=
  h.command fun _ hu => hu.readyBare hu

/-! ### Words and the lesson (03) -/

theorem execLoadWords (h : s.Bounded) (tag : Byte) (p : List Byte) : BoundedAfter (execLoadWords tag p s) := by
  refine h.command fun u hu => hu.check fun _ => hu.check fun _ => hu.check fun _ => hu.check fun _ =>
    hu.check fun hfull => ?_
  have hwords : (u.cycle.words ++ (loadRecords p).map wordRecordOf).length ≤ Config.tableCapacity := by
    simpa [loadRecords, length_records] using of_decide_eq_true hfull
  exact hu.putCycle ⟨hwords, hu.cycle.results, hu.cycle.index, hu.cycle.tries⟩

theorem execClearWords (h : s.Bounded) (tag : Byte) (p : List Byte) : BoundedAfter (execClearWords tag p s) :=
  h.command fun _ hu => hu.readyBare <| hu.check fun _ =>
    hu.putCycle ⟨Nat.zero_le _, length_clearResults, Nat.zero_lt_succ _, hu.cycle.tries⟩

theorem execStart (h : s.Bounded) (tag : Byte) (p : List Byte) : BoundedAfter (execStart tag p s) := by
  refine h.command fun u hu => hu.lessonCommand <| hu.check fun hindex => ?_
  have hrun := hu.putCycle ((hu.cycle.setStates .running u.cycle.phase).setResults length_clearResults)
  exact (hrun.putJudge (hrun.judge.setWork _ none)).wordBegin (of_decide_eq_true hindex)

theorem execPause (h : s.Bounded) (tag : Byte) (p : List Byte) : BoundedAfter (execPause tag p s) :=
  h.command fun _ hu => hu.lessonCommand ((hu.setStates .paused _).mapRunning _)

theorem execResume (h : s.Bounded) (tag : Byte) (p : List Byte) : BoundedAfter (execResume tag p s) :=
  h.command fun _ hu => hu.lessonCommand (hu.setStates .running _).cutInTest

theorem execStop (h : s.Bounded) (tag : Byte) (p : List Byte) : BoundedAfter (execStop tag p s) :=
  h.command fun _ hu => hu.lessonCommand
    ((hu.abandonJudging.mapResult _ _).sweep.clearAttempt.cueStop.setStates .loaded .none)

theorem execGoto (h : s.Bounded) (tag : Byte) (p : List Byte) : BoundedAfter (execGoto tag p s) := by
  refine h.command fun u hu => hu.lessonCommand <| hu.check fun hindex => ?_
  refine (hu.abandonJudging.mapResult _ _).cueStop.wordBegin ?_
  rw [State.cueStop_cycle]
  exact of_decide_eq_true hindex

theorem execGetResults (h : s.Bounded) (tag : Byte) (p : List Byte) : BoundedAfter (execGetResults tag p s) :=
  h.command fun _ hu => hu.check fun _ => hu.check fun _ => hu.check fun _ => hu

theorem execGetAttempt (h : s.Bounded) (tag : Byte) (p : List Byte) : BoundedAfter (execGetAttempt tag p s) :=
  h.command fun _ hu => hu.readyBare hu

/-! ### The Link Port (09) -/

theorem offerFrame (h : s.Bounded) (f : HostFrame) : (s.offerFrame f).Bounded := by
  unfold State.offerFrame
  split
  · exact h.putLink _
  · split
    · exact h.reply _
    · exact h

theorem receive (h : s.Bounded) (b : Byte) : (s.receive b).Bounded := by
  have htaken := h.putLink { s.link with assembler := (s.link.assembler.take b).1 }
  unfold State.receive
  dsimp only
  split
  · exact htaken
  · exact htaken.offerFrame _
  · exact htaken.raise _

theorem execReceivedByte (h : s.Bounded) (b : Byte) : BoundedAfter (execReceivedByte b s) := h.occurs fun _ => h.receive b

theorem execFrameReceived (h : s.Bounded) (b : Byte) : BoundedAfter (execFrameReceived b s) :=
  h.occurs fun _ => h.receive b

theorem execInterByteTimeout (h : s.Bounded) : BoundedAfter (execInterByteTimeout s) :=
  h.occurs fun _ => (h.putLink _).raise _

theorem execTransmitBegin (h : s.Bounded) : BoundedAfter (execTransmitBegin s) := h.occurs fun _ => h.putLink _

/-- A transmission's end lowers the lost-event count or leaves it (01 R13). -/
theorem transmitted (h : s.Bounded) (f : OutFrame) : (s.transmitted f).Bounded := by
  unfold State.transmitted
  split
  · exact (h.putRing (b := ⟨s.ring.events, s.ring.lost - _⟩)
      ⟨h.ring.1, Nat.le_trans (Nat.sub_le _ _) h.ring.2⟩).putLink _
  · exact h.putLink _
  · exact h.putLink _

theorem execTransmitComplete (h : s.Bounded) : BoundedAfter (execTransmitComplete s) := by
  refine h.occurs fun _ => ?_
  split
  · exact h
  · exact h.transmitted _

theorem execUnknownCommand (h : s.Bounded) (k tag : Byte) (p : List Byte) : BoundedAfter (execUnknownCommand k tag p s) := by
  unfold Machine.execUnknownCommand
  split
  · exact .next h
  · exact h.command fun _ hu => hu

/-! ### Speech (05, 06, 08) -/

theorem setCursor (h : s.Bounded) (c : Cursor) : (s.setCursor c).Bounded := h.mapRunning _

theorem reach (h : s.Bounded) (index : Nat) (previous : Option ItemClass) (items : List Item) :
    (s.reach index previous items).1.Bounded := by
  obtain ⟨spi, link, e, -⟩ := State.reach_eq index previous items s
  rw [e]
  exact (h.putBank { s.bank with spi := spi }).putLink link

theorem playFrom (h : s.Bounded) (u : Utterance) (index : Nat) (previous : Option ItemClass) :
    (s.playFrom u index previous).Bounded := by
  have hreach := h.reach index previous (u.items.drop index)
  unfold State.playFrom
  split
  · next t c e => rw [e] at hreach; exact hreach.setCursor c
  · next t e => rw [e] at hreach; exact hreach.endRunning u .done

theorem startReports (h : s.Bounded) (u : Utterance) (fromPending : Bool) : (s.startReports u fromPending).Bounded := by
  unfold State.startReports
  extract_lets a
  have ha : a.Bounded := by
    unfold a
    split
    · exact h.promptStarted
    · exact h
  split
  · exact ha.raise _
  · exact ha

theorem enterRunning (h : s.Bounded) (u : Utterance) : (s.enterRunning u).Bounded :=
  (h.putArbiter (h.arbiter.setRunning _)).setSpeaker _ _

/-- What a source hands over leaves no more in its place. -/
theorem handOver (h : s.Bounded) {src : Source} {u : Utterance} {fromPending : Bool} {rest : Place}
    (hh : (s.place src).handOver = some (u, fromPending, rest)) : rest.Within src := by
  refine (h.place src).of_le ?_
  unfold Place.handOver at hh
  split at hh
  · cases hh; exact Nat.le_refl _
  · next v us _ hp => cases hh; simp [hp]
  · cases hh

theorem startFrom (h : s.Bounded) (src : Source) : (s.startFrom src).Bounded := by
  unfold State.startFrom
  split
  · exact h
  · next u fromPending rest hh =>
    exact ((((h.putPlace (h.handOver hh)).enterRunning u).startReports u fromPending).playFrom u u.resume none).cutInTest

theorem execUtteranceStart (h : s.Bounded) : BoundedAfter (execUtteranceStart s) := by
  refine h.occurs fun _ => ?_
  split
  · exact h
  · exact h.startFrom _

theorem nextStage (h : s.Bounded) (r : Running) : (s.nextStage r).Bounded := by
  unfold State.nextStage
  split
  · split
    · exact (h.spiRead _).setCursor _
    · exact h.playFrom _ _ _
  · exact h.playFrom _ _ _
  · exact h.playFrom _ _ _

theorem execStageEnd (h : s.Bounded) : BoundedAfter (execStageEnd s) := by
  refine h.occurs fun _ => ?_
  split
  · exact h
  · exact h.nextStage _

theorem fadeOver (h : s.Bounded) (u : Utterance) (k : FadeKind) : (s.fadeOver u k).Bounded := by
  cases k with
  | restore => exact (h.putPlace (p := { s.place u.source with backup := some u }) (h.place u.source)).vacate
  | discardCut => exact h.endRunning u .cut
  | discardStopped => exact h.endRunning u .stopped

theorem execFadeEnd (h : s.Bounded) : BoundedAfter (execFadeEnd s) := by
  refine h.occurs fun _ => ?_
  split
  · exact h
  · split
    · exact h
    · exact h.fadeOver _ _

theorem giveSample (h : s.Bounded) (r : Running) : (s.giveSample r).Bounded := by
  unfold State.giveSample
  split
  · split
    · exact h
    · exact (h.setSpeaker _ _).setCursor _
  · split
    · exact (h.setSpeaker _ _).mapRunning _
    · exact h

theorem execSamplePeriod (h : s.Bounded) : BoundedAfter (execSamplePeriod s) := by
  refine h.occurs fun _ => ?_
  split
  · exact h.setSpeaker _ _
  · exact h.giveSample _

theorem execAmpHoldEnd (h : s.Bounded) : BoundedAfter (execAmpHoldEnd s) := h.occurs fun _ => h.setSpeaker _ _

theorem sayChecks (h : s.Bounded) {p : List Byte} {room : Bool} {r : ResultCode} {k : Answer}
    (hk : room = true → k.state.Bounded) : (s.sayChecks p room r k).state.Bounded :=
  h.check fun _ => h.check fun _ => h.check fun _ => h.check hk

theorem execSay (h : s.Bounded) (tag : Byte) (p : List Byte) : BoundedAfter (execSay tag p s) :=
  h.command fun _ hu => hu.sayChecks fun hroom => hu.arrive fun _ => of_decide_eq_true hroom

theorem execSayNow (h : s.Bounded) (tag : Byte) (p : List Byte) : BoundedAfter (execSayNow tag p s) := by
  refine h.command fun u hu => hu.sayChecks fun hroom => hu.arrive fun _ => ?_
  have hempty : (u.place .now).pending = [] := List.isEmpty_iff.mp hroom
  simp [hostUtterance, hempty, Source.capacity]

theorem execCut (h : s.Bounded) (tag : Byte) (p : List Byte) : BoundedAfter (execCut tag p s) :=
  h.command fun _ hu => hu.readyBare (hu.mapRunning _)

theorem flushHost (h : s.Bounded) : s.flushHost.Bounded := by
  have hreports : ∀ (us : List Utterance) (t : State), t.Bounded → (us.foldl State.reportFlushed t).Bounded := by
    intro us
    induction us with
    | nil => exact fun _ ht => ht
    | cons u rest ih =>
      refine fun t ht => ih _ ?_
      unfold State.reportFlushed
      split
      · exact ht.raise _
      · exact ht
  exact hreports _ _ ((h.putPlace (.nil .now none)).putPlace (.nil .queue none))

theorem execFlush (h : s.Bounded) (tag : Byte) (p : List Byte) : BoundedAfter (execFlush tag p s) :=
  h.command fun _ hu => hu.readyBare hu.flushHost

theorem execSetPhrases (h : s.Bounded) (tag : Byte) (p : List Byte) : BoundedAfter (execSetPhrases tag p s) :=
  h.command fun _ hu => hu.check fun _ => hu.putSources ⟨hu.sources.places, by simp⟩

theorem execSetSources (h : s.Bounded) (tag : Byte) (p : List Byte) : BoundedAfter (execSetSources tag p s) := by
  refine h.command fun u hu => hu.lessonSetting fun _ _ => (hu.putArbiter ⟨fun src => ?_, Nat.min_le_left _ _⟩).cutInTest
  cases src <;> exact Nat.min_le_left _ _

theorem execSetVoice (h : s.Bounded) (tag : Byte) (p : List Byte) : BoundedAfter (execSetVoice tag p s) :=
  h.command fun _ hu => hu.check fun _ => hu.check fun _ => hu.putVoice hu.voice

/-- The run of SET_LETTERS lies within the 28 entries (08 R147). -/
theorem execSetLetters (h : s.Bounded) (tag : Byte) (p : List Byte) : BoundedAfter (execSetLetters tag p s) := by
  refine h.command fun u hu => hu.lessonSetting fun _ hvalues => hu.putVoice ?_
  simp only [lettersValues, isSymbol, Bool.and_eq_true, decide_eq_true_eq] at hvalues
  obtain ⟨⟨⟨hlow, hhigh⟩, hrun⟩, hentries⟩ := hvalues
  obtain ⟨es, hes⟩ := Option.isSome_iff_exists.mp hentries
  have hmap : u.voice.letterMap.length = 28 := hu.voice
  have hlength : es.length = (p.length - 1) / 8 := by rw [length_of_allSome hes, length_records]
  show (splice u.voice.letterMap (field p 0 - 1) ((mapEntriesOf p).getD [])).length = 28
  rw [hes, Option.getD_some, length_splice (by omega), hmap]

/-! ### The Cue Timer (07) -/

theorem execCueDecrement (h : s.Bounded) : BoundedAfter (execCueDecrement s) := by
  refine h.occurs fun hc => ?_
  simp only [Bool.and_eq_true, decide_eq_true_eq] at hc
  obtain ⟨-, htwo⟩ := hc
  have hcue := h.cue
  exact h.putCue ⟨hcue.reload, hcue.boundary, hcue.limit, Nat.le_trans (Nat.sub_le _ _) hcue.remaining,
    fun _ => Nat.le_sub_of_add_le htwo⟩

theorem placeCue (h : s.Bounded) : s.placeCue.Bounded := by
  unfold State.placeCue
  split
  · next hempty =>
    rw [List.isEmpty_iff] at hempty
    have harrived : (s.arrive (compose .cue .cuePrompt [s.phrase .cue, .word])).Bounded :=
      h.arrive fun _ => by simp [compose, hempty, Source.capacity]
    exact (harrived.setStretch _).mapResult _ _
  · exact h

theorem expire (h : s.Bounded) : s.expire.Bounded := by
  unfold State.expire
  split
  · exact h.placeCue.cueLoad _
  · exact (h.raise _).cueStop

theorem execCueExpiry (h : s.Bounded) : BoundedAfter (execCueExpiry s) := h.occurs fun _ => h.expire

theorem execSetCue (h : s.Bounded) (tag : Byte) (p : List Byte) : BoundedAfter (execSetCue tag p s) := by
  refine h.command fun u hu => hu.lessonSetting fun _ _ => ?_
  have hcue := hu.cue
  exact hu.putCue ⟨clamp_within (by decide) _, Nat.min_le_left _ _, Nat.min_le_left _ _, hcue.remaining, hcue.counts⟩

/-! ### Every row and every step -/

theorem exec (h : s.Bounded) (c : Instr) : BoundedAfter (exec c s) := by
  cases c with
  | pinReset => exact .next s.pinReset_bounded
  | resetnRelease => exact h.execResetnRelease
  | scan raw => exact h.execScan raw
  | pressIntervalComplete position => exact h.execPressIntervalComplete position
  | releaseIntervalComplete position => exact h.execReleaseIntervalComplete position
  | wakingPress => exact h.execWakingPress
  | takePass => exact h.execTakePass
  | discardHead => exact h.execDiscardHead
  | takeLetter => exact h.execTakeLetter
  | takeRubout => exact h.execTakeRubout
  | takeGo => exact h.execTakeGo
  | takeSpace => exact h.execTakeSpace
  | takeHear => exact h.execTakeHear
  | takeHint => exact h.execTakeHint
  | judgingComplete => exact h.execJudgingComplete
  | utteranceStart => exact h.execUtteranceStart
  | stageEnd => exact h.execStageEnd
  | fadeEnd => exact h.execFadeEnd
  | cueDecrement => exact h.execCueDecrement
  | cueExpiry => exact h.execCueExpiry
  | ampHoldEnd => exact h.execAmpHoldEnd
  | frameReceived byte => exact h.execFrameReceived byte
  | interByteTimeout => exact h.execInterByteTimeout
  | transmitBegin => exact h.execTransmitBegin
  | transmitComplete => exact h.execTransmitComplete
  | unknownCommand kind tag payload => exact h.execUnknownCommand kind tag payload
  | status tag payload => exact h.execStatus tag payload
  | begin tag payload => exact h.execBegin tag payload
  | bankCheckComplete => exact h.execBankCheckComplete
  | reset tag payload => exact h.execReset tag payload
  | doze tag payload => exact h.execDoze tag payload
  | wake tag payload => exact h.execWake tag payload
  | setKeys tag payload => exact h.execSetKeys tag payload
  | setIntake tag payload => exact h.execSetIntake tag payload
  | setLetters tag payload => exact h.execSetLetters tag payload
  | setPhrases tag payload => exact h.execSetPhrases tag payload
  | setPairs tag payload => exact h.execSetPairs tag payload
  | setSources tag payload => exact h.execSetSources tag payload
  | setCue tag payload => exact h.execSetCue tag payload
  | setJudge tag payload => exact h.execSetJudge tag payload
  | setVoice tag payload => exact h.execSetVoice tag payload
  | loadWords tag payload => exact h.execLoadWords tag payload
  | clearWords tag payload => exact h.execClearWords tag payload
  | start tag payload => exact h.execStart tag payload
  | pause tag payload => exact h.execPause tag payload
  | resume tag payload => exact h.execResume tag payload
  | stop tag payload => exact h.execStop tag payload
  | goto tag payload => exact h.execGoto tag payload
  | releaseLetter tag payload => exact h.execReleaseLetter tag payload
  | releasePass tag payload => exact h.execReleasePass tag payload
  | releaseWord tag payload => exact h.execReleaseWord tag payload
  | getAttempt tag payload => exact h.execGetAttempt tag payload
  | getResults tag payload => exact h.execGetResults tag payload
  | setWindow tag payload => exact h.execSetWindow tag payload
  | getTally tag payload => exact h.execGetTally tag payload
  | say tag payload => exact h.execSay tag payload
  | sayNow tag payload => exact h.execSayNow tag payload
  | cut tag payload => exact h.execCut tag payload
  | flush tag payload => exact h.execFlush tag payload
  | receivedByte byte => exact h.execReceivedByte byte
  | samplePeriod => exact h.execSamplePeriod

theorem step (h : s.Bounded) : BoundedAfter (step s) := by
  unfold Machine.step
  split
  · exact .next h.passTime
  · exact (h.setPending _).exec _

end State.Bounded

/-- Settles O56: the laws are the bounds of the blocks, and every row keeps those. -/
theorem stepKeepsBounds : Obligations.StepKeepsBounds := by
  intro s t hcapacity hsettings hstep
  exact t.bounded_iff.mp ((s.bounded_iff.mpr ⟨hcapacity, hsettings⟩).step t hstep)

end Sys2Proof.Machine
end

section
/-! PROOFS. The scans, presses and releases of the key matrix (O12, O13). -/

namespace Sys2Proof.Machine

/-! ### The held set and the intervals -/

/-- A step that replaces the scanner alone. -/
theorem State.sameBut_putScanner (s : State) (k : Scanner) : SameBut [.scanner] s (s.putScanner k) := by
  refine ⟨rfl, rfl, fun b hb => ?_⟩
  cases b <;> first | rfl | simp at hb

/-- Of a run of positions, each making at most an interval of its own, the one at `p` is what `p` makes. -/
theorem find?_filterMap_position {f : Nat → Option Interval} (hf : ∀ q i, f q = some i → i.position = q) (p : Nat)
    {l : List Nat} (hp : p ∈ l) : ((l.filterMap f).find? fun i => decide (i.position = p)) = f p := by
  induction l with
  | nil => cases hp
  | cons q rest ih =>
    by_cases hq : q = p
    · subst hq
      cases hfq : f q with
      | none =>
        rw [List.filterMap_cons_none hfq]
        by_cases hmem : q ∈ rest
        · rw [ih hmem, hfq]
        · rw [List.find?_eq_none]
          intro i hi hpos
          obtain ⟨r, hr, hfr⟩ := List.mem_filterMap.mp hi
          have : r = q := (hf r i hfr).symm.trans (of_decide_eq_true hpos)
          exact hmem (this ▸ hr)
      | some i => simp [hfq, hf q i hfq]
    · have hrest : p ∈ rest := (List.mem_cons.mp hp).resolve_left (Ne.symm hq)
      cases hfq : f q with
      | none => rw [List.filterMap_cons_none hfq, ih hrest]
      | some i =>
        rw [List.filterMap_cons_some hfq, List.find?_cons_of_neg (by simp [hf q i hfq, hq]), ih hrest]

theorem Scanner.position_of_scanPosition {k : Scanner} {raw : BitVec 64} (q : Nat) (i : Interval)
    (h : k.scanPosition raw q = some i) : i.position = q := by
  unfold Scanner.scanPosition at h
  split at h
  · cases h
  · split at h <;> cases h <;> rfl

/-- After a scan, each position has the interval that the scan makes of it (01 R2). -/
theorem Scanner.intervalAt_scan (k : Scanner) (raw : BitVec 64) {p : Nat} (hp : p < 64) :
    (k.scan raw).intervalAt p = k.scanPosition raw p :=
  find?_filterMap_position position_of_scanPosition p (List.mem_range.mpr hp)

theorem mem_insertHeld (h a : HeldEntry) (l : List HeldEntry) : a ∈ insertHeld h l ↔ a = h ∨ a ∈ l := by
  induction l with
  | nil => simp [insertHeld]
  | cons b rest ih =>
    unfold insertHeld
    split
    · exact List.mem_cons
    · rw [List.mem_cons, List.mem_cons, ih]
      exact or_left_comm

theorem Scanner.isDown_iff (k : Scanner) (q : Nat) : k.isDown q = true ↔ ∃ h ∈ k.held, h.position = q := by
  simp [Scanner.isDown]

/-- A press enters its position, unmarked (01 R5). -/
theorem Scanner.mem_held_press (k : Scanner) (p : Nat) (h : HeldEntry) :
    h ∈ (k.press p).held ↔ h = ⟨p, false⟩ ∨ h ∈ k.held :=
  mem_insertHeld _ _ _

theorem Scanner.isDown_press (k : Scanner) (p q : Nat) : (k.press p).isDown q = (decide (q = p) || k.isDown q) := by
  rw [Bool.eq_iff_iff, isDown_iff, Bool.or_eq_true, isDown_iff, decide_eq_true_eq]
  constructor
  · rintro ⟨h, hmem, rfl⟩
    rcases (k.mem_held_press p h).mp hmem with rfl | hold
    · exact .inl rfl
    · exact .inr ⟨h, hold, rfl⟩
  · rintro (rfl | ⟨h, hold, rfl⟩)
    · exact ⟨⟨q, false⟩, (k.mem_held_press q _).mpr (.inl rfl), rfl⟩
    · exact ⟨h, (k.mem_held_press p h).mpr (.inr hold), rfl⟩

/-- A release takes its position out (01 R6). -/
theorem Scanner.mem_held_release (k : Scanner) (p : Nat) (h : HeldEntry) :
    h ∈ (k.release p).held ↔ h ∈ k.held ∧ h.position ≠ p := by
  simp [Scanner.release, Scanner.dropInterval]

theorem Scanner.intervalAt_dropInterval_self (k : Scanner) (p : Nat) : (k.dropInterval p).intervalAt p = none := by
  simp [Scanner.intervalAt, Scanner.dropInterval]

theorem Scanner.intervalAt_dropInterval_ne (k : Scanner) {p q : Nat} (h : q ≠ p) :
    (k.dropInterval p).intervalAt q = k.intervalAt q := by
  unfold Scanner.intervalAt Scanner.dropInterval
  rw [List.find?_filter]
  congr 1
  funext i
  by_cases hi : i.position = q <;> simp [hi, h]

/-! ### The events of a press and a release -/

theorem pressMakes_iff (r : Role) (e : PassEdge) :
    pressMakes r e = true ↔ r ≠ .none ∧ (r = .pass → e ≠ .release) := by
  cases r <;> cases e <;> decide

theorem releaseMakes_iff (r : Role) (e : PassEdge) : releaseMakes r e = true ↔ r = .pass ∧ e ≠ .press := by
  cases r <;> cases e <;> decide

/-- What an offered event does (01 R11, R12, R14): the ring and the link alone can change. -/
theorem State.offer_spec (s : State) (e : KeyEvent) : RingReceives s (s.offer e) e ∧ SameBut [.ring, .link] s (s.offer e) := by
  have hfiltered : s.filtered e.role = true ↔ s.intake.settings.listenFirst = true ∧ e.role ≠ .pass ∧
      (s.sounding .word = true ∨ s.sounding .verdict = true) := by
    simp [State.filtered, and_assoc]
  have hblocks : ∀ (r : Ring) (l : Link), SameBut [.ring, .link] s ((s.putRing r).putLink l) :=
    fun r l => ⟨rfl, rfl, fun b hb => by cases b <;> first | rfl | simp at hb⟩
  unfold RingReceives State.offer
  by_cases hf : s.filtered e.role = true
  · rw [if_pos hf, if_pos (hfiltered.mp hf)]
    exact ⟨⟨rfl, rfl⟩, hblocks s.ring s.link⟩
  · rw [if_neg hf, if_neg (mt hfiltered.mpr hf)]
    by_cases hroom : s.ring.events.length < Config.ringCapacity
    · have hroom' : s.ring.events.length < 16 := hroom
      rw [if_pos hroom, if_pos hroom']
      exact ⟨⟨rfl, rfl⟩, hblocks { s.ring with events := s.ring.events ++ [e] } s.link⟩
    · have hfull : ¬s.ring.events.length < 16 := hroom
      rw [if_neg hroom, if_neg hfull]
      exact ⟨⟨rfl, rfl⟩, hblocks _ _⟩

theorem State.offer_scanner (s : State) (e : KeyEvent) : (s.offer e).scanner = s.scanner :=
  (s.offer_spec e).2.2.2 .scanner (by simp)

/-- What follows the scanner's change at a completion: an event is offered, or none. -/
def State.completed (s : State) (k : Scanner) (makes : Bool) (e : KeyEvent) : State :=
  if makes then (s.putScanner k).offer e else s.putScanner k

theorem State.completed_scanner (s : State) (k : Scanner) (makes : Bool) (e : KeyEvent) :
    (s.completed k makes e).scanner = k := by
  unfold State.completed
  split
  · exact State.offer_scanner _ e
  · rfl

theorem State.completed_sameBut (s : State) (k : Scanner) (makes : Bool) (e : KeyEvent) :
    SameBut [.scanner, .ring, .link] s (s.completed k makes e) := by
  unfold State.completed
  split
  · obtain ⟨-, hpending, hreset, hblocks⟩ := (s.putScanner k).offer_spec e
    refine ⟨hpending, hreset, fun b hb => ?_⟩
    have hb' := hblocks b
    cases b <;> first | (simp at hb; done) | exact hb' (by simp)
  · refine ⟨rfl, rfl, fun b hb => ?_⟩
    cases b <;> first | rfl | simp at hb

theorem State.completed_ring (s : State) (k : Scanner) (makes : Bool) (e : KeyEvent) :
    if makes = true then RingReceives s (s.completed k makes e) e
    else (s.completed k makes e).ring = s.ring ∧ (s.completed k makes e).link = s.link := by
  unfold State.completed
  split
  · exact ((s.putScanner k).offer_spec e).1
  · exact ⟨rfl, rfl⟩

theorem execScan_of {s : State} (raw : BitVec 64) (hlow : s.resetLow = false) (hop : s.op ≠ .setup) :
    exec (.scan raw) s = .next (s.putScanner (s.scanner.scan raw)) := by
  show execScan raw s = _
  rw [execScan, State.occurs_of _ _ hlow (by simpa using hop)]

theorem execScan_setup {s : State} (raw : BitVec 64) (hop : s.op = .setup) : exec (.scan raw) s = .next s := by
  show execScan raw s = _
  rw [execScan, State.occurs_not _ _ (.inr (by simpa using hop))]

/-- The release's event, if its key makes one (01 R6). -/
def State.releaseEvent (s : State) (p : Nat) : Bool :=
  decide (s.op = .ready) && !s.scanner.isQuiet p && releaseMakes (s.scanner.record p).role s.scanner.passEdge

theorem State.releaseEvent_iff (s : State) (p : Nat) :
    s.releaseEvent p = true ↔ s.op = .ready ∧ s.scanner.isQuiet p = false ∧ (s.scanner.record p).role = .pass ∧
      s.scanner.passEdge ≠ .press := by
  simp [State.releaseEvent, releaseMakes_iff, and_assoc]

theorem execPressIntervalComplete_of {s : State} {p : Nat} (hlow : s.resetLow = false) (hop : s.op = .ready)
    (hdue : s.scanner.completes p = true) (hup : s.scanner.isDown p = false) :
    exec (.pressIntervalComplete p) s =
      .next (s.completed (s.scanner.press p) (pressMakes (s.scanner.record p).role s.scanner.passEdge)
        ⟨p, (s.scanner.record p).role, (s.scanner.record p).symbol, .press⟩) := by
  show execPressIntervalComplete p s = _
  rw [execPressIntervalComplete, State.occurs_of _ _ hlow (by simp [hop, hdue, hup])]
  rfl

theorem execReleaseIntervalComplete_of {s : State} {p : Nat} (hlow : s.resetLow = false) (hop : s.op ≠ .setup)
    (hdue : s.scanner.completes p = true) (hdown : s.scanner.isDown p = true) :
    exec (.releaseIntervalComplete p) s =
      .next (s.completed (s.scanner.release p) (s.releaseEvent p)
        ⟨p, (s.scanner.record p).role, (s.scanner.record p).symbol, .release⟩) := by
  show execReleaseIntervalComplete p s = _
  rw [execReleaseIntervalComplete, State.occurs_of _ _ hlow (by simp [hop, hdue, hdown])]
  rfl

/-! ### The obligations -/

/-- Settles O12: the scan is a map over the positions, read back position by position. -/
theorem scanDebouncesEveryPosition : Obligations.ScanDebouncesEveryPosition := by
  intro s raw hlow
  refine ⟨execScan_setup raw, fun hop => ⟨_, execScan_of raw hlow hop, s.sameBut_putScanner _, rfl, fun p hp => ?_⟩⟩
  rw [State.putScanner_scanner, Scanner.intervalAt_scan _ _ hp, Nat.mul_comm 5]
  rfl

/-- Settles O13: the scanner's change, then the offer to the ring. -/
theorem pressAndReleaseMakeTheirEvents : Obligations.PressAndReleaseMakeTheirEvents := by
  constructor
  · intro s p hlow hop hdue hup
    refine ⟨_, execPressIntervalComplete_of hlow hop hdue hup, s.completed_sameBut _ _ _, ?_⟩
    rw [State.completed_scanner]
    refine ⟨rfl, s.scanner.isDown_press p, s.scanner.mem_held_press p, s.scanner.intervalAt_dropInterval_self p,
      fun q hq => s.scanner.intervalAt_dropInterval_ne hq, ?_⟩
    exact (ite_congr (propext (pressMakes_iff _ _)) (fun _ => rfl) fun _ => rfl).mp (s.completed_ring _ _ _)
  · intro s p hlow hop hdue hdown
    refine ⟨_, execReleaseIntervalComplete_of hlow hop hdue hdown, s.completed_sameBut _ _ _, ?_⟩
    rw [State.completed_scanner]
    refine ⟨rfl, s.scanner.mem_held_release p, s.scanner.intervalAt_dropInterval_self p,
      fun q hq => s.scanner.intervalAt_dropInterval_ne hq, ?_⟩
    have hring := (ite_congr (propext (s.releaseEvent_iff p)) (fun _ => rfl) fun _ => rfl).mp
      (s.completed_ring (s.scanner.release p) (s.releaseEvent p)
        ⟨p, (s.scanner.record p).role, (s.scanner.record p).symbol, .release⟩)
    split
    · next hevent =>
      rw [if_pos hevent] at hring
      obtain ⟨-, -, hpass, -⟩ := hevent
      rwa [hpass] at hring ⊢
    · next hevent => rwa [if_neg hevent] at hring

end Sys2Proof.Machine
end

section
/-! PROOFS. SET_KEYS (O14) and the refusals of the settings that shape a lesson (O26). -/

namespace Sys2Proof.Machine

/-! ### A taken frame leaves the rest of the part -/

theorem Takes.sameBut {s u : State} {f : HostFrame} (h : Takes s f u) : SameBut [.link] s u := by
  obtain ⟨-, -, -, rest, -, rfl⟩ := h
  exact ⟨rfl, rfl, fun b hb => by cases b <;> first | rfl | simp at hb⟩

theorem Takes.op {s u : State} {f : HostFrame} (h : Takes s f u) : u.op = s.op := h.sameBut.2.2 .op (by simp)

theorem Takes.scanner {s u : State} {f : HostFrame} (h : Takes s f u) : u.scanner = s.scanner :=
  h.sameBut.2.2 .scanner (by simp)

theorem Takes.cycle {s u : State} {f : HostFrame} (h : Takes s f u) : u.cycle = s.cycle :=
  h.sameBut.2.2 .cycle (by simp)

theorem Takes.lessonIdle {s u : State} {f : HostFrame} (h : Takes s f u) :
    u.lessonIdle = !s.cycle.lesson.current := by
  rw [State.lessonIdle, h.cycle]

/-! ### The checks of SET_KEYS (01 R10) -/

/-- The four answers of SET_KEYS, by its checks in order. -/
theorem execSetKeys_of {s u : State} {tag : Byte} {p : List Byte} (h : Takes s ⟨0x10, tag, p⟩ u) :
    (s.op = .doze ∨ s.cycle.lesson.current = true →
      exec (.setKeys tag p) s = .next (u.replied 0x90 tag .state [])) ∧
    (s.op ≠ .doze → s.cycle.lesson.current = false → setKeysSize p = false →
      exec (.setKeys tag p) s = .next (u.replied 0x90 tag .length [])) ∧
    (s.op ≠ .doze → s.cycle.lesson.current = false → setKeysSize p = true → setKeysValues p = false →
      exec (.setKeys tag p) s = .next (u.replied 0x90 tag .range [])) ∧
    (s.op ≠ .doze → s.cycle.lesson.current = false → setKeysSize p = true → setKeysValues p = true →
      exec (.setKeys tag p) s = .next ((u.putScanner (s.scanner.configure p)).replied 0x90 tag .ok
        [byteOf (clamp 1 8 (field p 0))])) := by
  have hkind : replyKind 0x10 = 0x90 := by decide
  rw [exec, execSetKeys, State.command_of_takes _ h, hkind, h.op, h.lessonIdle, h.scanner]
  refine ⟨?_, ?_, ?_, ?_⟩
  · rintro (hdoze | hlesson)
    · simp [hdoze]
    · simp [hlesson]
  · intro hop hidle hsize
    simp [hop, hidle, hsize]
  · intro hop hidle hsize hvalues
    simp [hop, hidle, hsize, hvalues]
  · intro hop hidle hsize hvalues
    simp [hop, hidle, hsize, hvalues, Scanner.configure]

theorem setKeysSize_iff (p : List Byte) : setKeysSize p = true ↔ 5 ≤ p.length ∧ (p.length - 3) % 2 = 0 :=
  decide_eq_true_iff

/-- The values that SET_KEYS takes (01 R10). -/
theorem setKeysValues_imp {p : List Byte} (h : setKeysValues p = true) :
    field p 1 ≤ 2 ∧ field p 2 ≤ 63 ∧ field p 2 + (p.length - 3) / 2 ≤ 64 ∧
      ∀ i, i < (p.length - 3) / 2 → KeyRecordOk (field p (3 + 2 * i)) (field p (4 + 2 * i)) := by
  simp only [setKeysValues, Bool.and_eq_true, decide_eq_true_eq] at h
  obtain ⟨⟨⟨hedge, hfirst⟩, hlast⟩, hrecords⟩ := h
  refine ⟨(isSome_passEdgeOf _).mp hedge, hfirst, hlast, fun i hi => ?_⟩
  have hrecord := (isSome_keyRecordOf _).mp (isSome_of_allSome_records hrecords hi)
  rw [field_record _ _ (by omega), field_record _ _ (by omega)] at hrecord
  rwa [show 3 + 2 * i + 1 = 4 + 2 * i by omega] at hrecord

/-! ### A payload of SET_KEYS with its records -/

theorem length_keyRun (recs : List (Byte × Byte)) : (recs.flatMap fun r => [r.1, r.2]).length = 2 * recs.length := by
  induction recs with
  | nil => rfl
  | cons r rest ih =>
    simp only [List.flatMap_cons, List.length_append, ih, List.length_cons, List.length_nil]
    omega

theorem setKeysRecords_run (d e first : Byte) (recs : List (Byte × Byte)) :
    setKeysRecords (d :: e :: first :: recs.flatMap fun r => [r.1, r.2]) =
      allSome keyRecordOf (recs.map fun r => [r.1, r.2]) := by
  have hcount : ((d :: e :: first :: recs.flatMap fun r => [r.1, r.2]).length - 3) / 2 = recs.length := by
    simp only [List.length_cons, length_keyRun]
    omega
  rw [setKeysRecords, hcount]
  exact congrArg _ (records_flatMap recs)

/-- Settles O14: the checks pass, the records read back one by one, and the run is spliced into the key map. -/
theorem setKeysStoresTheRun : Obligations.SetKeysStoresTheRun := by
  intro s u tag d e first recs htakes hop hidle hmap hne hedge hrun hrecs
  let p : List Byte := d :: e :: first :: recs.flatMap fun r => [r.1, r.2]
  have hlength : p.length = 3 + 2 * recs.length := by
    simp only [p, List.length_cons, length_keyRun]
    omega
  have hcount : 1 ≤ recs.length := List.length_pos_iff.mpr hne
  have hsome : (setKeysRecords p).isSome = true := by
    rw [setKeysRecords_run, isSome_allSome]
    intro r hr
    obtain ⟨q, hq, rfl⟩ := List.mem_map.mp hr
    exact (isSome_keyRecordOf _).mpr (hrecs q hq)
  obtain ⟨run, hread⟩ := Option.isSome_iff_exists.mp hsome
  rw [setKeysRecords_run] at hread
  have hrunLength : run.length = recs.length := by rw [length_of_allSome hread, List.length_map]
  obtain ⟨edge, hedgeOf⟩ := Option.isSome_iff_exists.mp ((isSome_passEdgeOf _).mpr hedge)
  have hsize : setKeysSize p = true := (setKeysSize_iff p).mpr ⟨by omega, by omega⟩
  have hvalues : setKeysValues p = true := by
    have hfirst : field p 2 = first.toNat := rfl
    simp only [setKeysValues, Bool.and_eq_true, decide_eq_true_eq, hsome, hfirst, hlength, Config.positions]
    exact ⟨⟨⟨(isSome_passEdgeOf _).mpr hedge, by omega⟩, by omega⟩, trivial⟩
  obtain ⟨-, -, -, haccept⟩ := execSetKeys_of htakes
  have hkeyMap : (s.scanner.configure p).keyMap = splice s.scanner.keyMap first.toNat run := by
    simp only [Scanner.configure, p, setKeysRecords_run, hread, Option.getD_some]
    rfl
  have hfits : first.toNat + run.length ≤ s.scanner.keyMap.length := by omega
  refine ⟨_, haccept hop hidle hsize hvalues, ?_, rfl, rfl, ?_, rfl, rfl, ?_, fun i _ => ?_⟩
  · obtain ⟨hpending, hreset, hblocks⟩ := htakes.sameBut
    refine ⟨hpending, hreset, fun b hb => ?_⟩
    have hsame := hblocks b
    cases b <;> first | (simp at hb; done) | exact hsame (by simp)
  · show passEdgeOf e.toNat = some ((passEdgeOf e.toNat).getD s.scanner.passEdge)
    rw [hedgeOf, Option.getD_some]
  · show (s.scanner.configure p).keyMap.length = 64
    rw [hkeyMap, length_splice hfits, hmap]
  · show (s.scanner.configure p).keyMap[i]? = _
    rw [hkeyMap, getElem?_splice hfits, hrunLength, getElem?_of_allSome hread, List.getElem?_map]
    refine ite_congr rfl (fun _ => ?_) fun _ => rfl
    cases hr : recs[i - first.toNat]? with
    | none => rfl
    | some r => exact keyRecordOf_of_ok (hrecs r (List.mem_of_getElem? hr))

/-! ### The refusals of the other settings (09 R156, log 10) -/

/-- A setting that shapes a lesson refuses with the first of its checks that fails. -/
theorem lessonSetting_refused {s u : State} {kind tag : Byte} {p : List Byte} {sizeOk valuesOk : Bool}
    {k : State → Answer} {sized bad : Prop} (hkind : knownKind kind = true) (hsize : sizeOk = true ↔ sized)
    (hvalues : valuesOk = true → ¬bad) (h : Takes s ⟨kind, tag, p⟩ u) :
    let o := s.command kind tag p fun s => s.lessonSetting sizeOk valuesOk (k s)
    (s.op = .doze → o = .next (u.replied (kind + 0x80) tag .state [])) ∧
    (s.op ≠ .doze → ¬sized → o = .next (u.replied (kind + 0x80) tag .length [])) ∧
    (s.op ≠ .doze → sized → s.cycle.lesson.current = true → o = .next (u.replied (kind + 0x80) tag .state [])) ∧
    (s.op ≠ .doze → sized → s.cycle.lesson.current = false → bad →
      o = .next (u.replied (kind + 0x80) tag .range [])) := by
  have hreply : replyKind kind = kind + 0x80 := if_pos hkind
  dsimp only
  rw [State.command_of_takes _ h, hreply, State.lessonSetting, h.op, h.lessonIdle]
  refine ⟨?_, ?_, ?_, ?_⟩
  · intro hdoze
    simp [hdoze]
  · intro hop hno
    have hfalse : sizeOk = false := Bool.eq_false_iff.mpr (mt hsize.mp hno)
    simp [hop, hfalse]
  · intro hop hs hlesson
    simp [hop, hsize.mpr hs, hlesson]
  · intro hop hs hidle hbad
    have hfalse : valuesOk = false := Bool.eq_false_iff.mpr fun hok => hvalues hok hbad
    simp [hop, hsize.mpr hs, hidle, hfalse]

theorem intakeSettingsOf_imp {p : List Byte} (h : (intakeSettingsOf p).isSome = true) : ∀ i, i < 6 → field p i ≤ 1 := by
  unfold intakeSettingsOf at h
  split at h
  · next ha hb hc hd he hm =>
    intro i hi
    match i, hi with
    | 0, _ => exact le_of_flagOf (Option.isSome_of_eq_some ha)
    | 1, _ => exact le_of_flagOf (Option.isSome_of_eq_some hb)
    | 2, _ => exact le_of_flagOf (Option.isSome_of_eq_some hc)
    | 3, _ => exact le_of_flagOf (Option.isSome_of_eq_some hd)
    | 4, _ => exact le_of_flagOf (Option.isSome_of_eq_some he)
    | 5, _ => exact le_of_checkModeOf (Option.isSome_of_eq_some hm)
  · cases h

theorem lettersValues_imp {p : List Byte} (h : lettersValues p = true) :
    1 ≤ field p 0 ∧ field p 0 ≤ 28 ∧ field p 0 + (p.length - 1) / 8 ≤ 29 ∧
      ∀ i, i < (p.length - 1) / 8 → field p (1 + 8 * i) ≤ 3 := by
  simp only [lettersValues, isSymbol, Bool.and_eq_true, decide_eq_true_eq] at h
  obtain ⟨⟨⟨hlow, hhigh⟩, hlast⟩, hentries⟩ := h
  refine ⟨hlow, hhigh, hlast, fun i hi => ?_⟩
  have hentry := isSome_of_allSome_records hentries hi
  rw [mapEntryOf, Option.isSome_map, field_record _ _ (by omega)] at hentry
  exact le_of_mapModeOf hentry

theorem pairsOf_imp {p : List Byte} (h : (pairsOf p).all pairOk = true) {i : Nat} (hi : i < field p 0) :
    (1 ≤ field p (1 + 2 * i) ∧ field p (1 + 2 * i) ≤ 26) ∧ (1 ≤ field p (2 + 2 * i) ∧ field p (2 + 2 * i) ≤ 26) ∧
      field p (1 + 2 * i) ≠ field p (2 + 2 * i) := by
  have hpair := List.all_eq_true.mp h _ (List.mem_map_of_mem (mem_records (size := 2) (p.drop 1) hi))
  rw [List.drop_drop, field_record _ _ (by omega), field_record _ _ (by omega),
    show 1 + 2 * i + 1 = 2 + 2 * i by omega] at hpair
  simpa [pairOk, isLetter, and_assoc] using hpair

theorem sourcesValues_imp {p : List Byte} (h : sourcesValues p = true) :
    (∀ i, i < 6 → field p (2 * i + 1) ≤ 1) ∧ field p 12 ≤ 2 := by
  simp only [sourcesValues, Bool.and_eq_true, List.all_eq_true, List.mem_range] at h
  obtain ⟨hflags, hpolicy⟩ := h
  exact ⟨fun i hi => le_of_flagOf (hflags i hi), le_of_echoPolicyOf hpolicy⟩

/-- Settles O26: each setting's size check is the size named, and its value checks exclude every value named. -/
theorem lessonSettingsAreRefused : Obligations.LessonSettingsAreRefused := by
  intro s u tag p
  refine ⟨fun h => ?_, ?_, ?_, ?_, ?_, ?_, ?_⟩
  · obtain ⟨hstate, hlength, hrange, -⟩ := execSetKeys_of h
    refine ⟨hstate, fun hop hidle hno => hlength hop hidle ?_, fun hop hidle hsized hbad => hrange hop hidle ?_ ?_⟩
    · exact Bool.eq_false_iff.mpr (mt (setKeysSize_iff p).mp hno)
    · exact (setKeysSize_iff p).mpr hsized
    · refine Bool.eq_false_iff.mpr fun hok => ?_
      obtain ⟨hedge, hfirst, hlast, hrecords⟩ := setKeysValues_imp hok
      rcases hbad with hbad | hbad | hbad | ⟨i, hi, hbad⟩
      · omega
      · omega
      · omega
      · obtain ⟨hrole, hsymbol, hletter⟩ := hrecords i hi
        omega
  · refine lessonSetting_refused (by decide) decide_eq_true_iff ?_
    rintro hok ⟨i, hi, hbad⟩
    exact absurd (intakeSettingsOf_imp hok i hi) (by omega)
  · refine lessonSetting_refused (by decide) decide_eq_true_iff ?_
    intro hok hbad
    obtain ⟨hlow, hhigh, hlast, hmodes⟩ := lettersValues_imp hok
    rcases hbad with hbad | hbad | hbad | ⟨i, hi, hbad⟩
    · omega
    · omega
    · omega
    · exact absurd (hmodes i hi) (by omega)
  · refine lessonSetting_refused (by decide) decide_eq_true_iff ?_
    rintro hok ⟨i, hi, hbad⟩
    obtain ⟨hone, htwo, hne⟩ := pairsOf_imp hok hi
    omega
  · refine lessonSetting_refused (by decide) decide_eq_true_iff ?_
    intro hok hbad
    obtain ⟨hflags, hpolicy⟩ := sourcesValues_imp hok
    rcases hbad with ⟨i, hi, hbad⟩ | hbad
    · exact absurd (hflags i hi) (by omega)
    · omega
  · exact lessonSetting_refused (by decide) decide_eq_true_iff fun _ => id
  · exact lessonSetting_refused (by decide) decide_eq_true_iff fun hok hbad => absurd (le_of_markRuleOf hok) (by omega)

end Sys2Proof.Machine
end

section
/-! PROOFS. Frames of steps that make several changes, and the cut-in test of such a step: each shared operation has its own
frame and its own test, and a step's frame is a chain of theirs. -/

namespace Sys2Proof.Machine

/-! ### Frames in a chain -/

theorem SameBut.trans {bs cs : List Block} {s t u : State} (h : SameBut bs s t) (k : SameBut cs t u) :
    SameBut (bs ++ cs) s u := by
  obtain ⟨hpending, hreset, hblocks⟩ := h
  obtain ⟨kpending, kreset, kblocks⟩ := k
  refine ⟨kpending.trans hpending, kreset.trans hreset, fun b hb => ?_⟩
  rw [List.mem_append, not_or] at hb
  have hst := hblocks b hb.1
  have htu := kblocks b hb.2
  cases b <;> exact Eq.trans htu hst

theorem SameBut.mono {bs cs : List Block} {s t : State} (h : SameBut bs s t) (hsub : ∀ b ∈ bs, b ∈ cs) :
    SameBut cs s t := by
  obtain ⟨hpending, hreset, hblocks⟩ := h
  exact ⟨hpending, hreset, fun b hb => hblocks b (mt (hsub b) hb)⟩

theorem SameBut.refl (s : State) : SameBut [] s s := ⟨rfl, rfl, fun b _ => by cases b <;> rfl⟩

theorem State.sameBut_putIntake (s : State) (i : Intake) : SameBut [.intake] s (s.putIntake i) :=
  ⟨rfl, rfl, fun b hb => by cases b <;> first | rfl | simp at hb⟩

theorem State.sameBut_putCycle (s : State) (c : Cycle) : SameBut [.cycle] s (s.putCycle c) :=
  ⟨rfl, rfl, fun b hb => by cases b <;> first | rfl | simp at hb⟩

theorem State.sameBut_putJudge (s : State) (j : Judge) : SameBut [.judge] s (s.putJudge j) :=
  ⟨rfl, rfl, fun b hb => by cases b <;> first | rfl | simp at hb⟩

theorem State.sameBut_putCue (s : State) (c : CueTimer) : SameBut [.cue] s (s.putCue c) :=
  ⟨rfl, rfl, fun b hb => by cases b <;> first | rfl | simp at hb⟩

theorem State.sameBut_putPlace (s : State) (src : Source) (p : Place) : SameBut [.sources] s (s.putPlace src p) :=
  ⟨rfl, rfl, fun b hb => by cases b <;> first | rfl | simp at hb⟩

theorem State.sameBut_putArbiter (s : State) (a : Arbiter) : SameBut [.arbiter] s (s.putArbiter a) :=
  ⟨rfl, rfl, fun b hb => by cases b <;> first | rfl | simp at hb⟩

theorem State.sameBut_cutInTest (s : State) : SameBut [.arbiter] s s.cutInTest := by
  rw [s.cutInTest_eq]
  exact s.sameBut_putArbiter _

theorem State.sameBut_arrive (s : State) (u : Utterance) : SameBut [.sources, .arbiter] s (s.arrive u) :=
  (s.sameBut_putPlace _ _).trans (State.sameBut_cutInTest _)

theorem State.sameBut_cueLoad (s : State) (stretch : Nat) : SameBut [.cue, .arbiter] s (s.cueLoad stretch) :=
  (s.sameBut_putCue _).trans (State.sameBut_cutInTest _)

theorem State.sameBut_cueStop (s : State) : SameBut [.cue, .arbiter] s s.cueStop :=
  (s.sameBut_putCue _).trans (State.sameBut_cutInTest _)

/-! ### One cut-in test in a chain (06 R111) -/

/-- A state whose last change is the cut-in test, made with the arbiter of `s`. -/
theorem CutInTested.of_cutInTest {s c : State} (h : c.arbiter = s.arbiter) : CutInTested s c.cutInTest :=
  State.cutInTest_arbiter_congr (by simp) (by simp) (by simp) (by simp) h

theorem State.cutInTested_arrive (s : State) (u : Utterance) : CutInTested s (s.arrive u) :=
  .of_cutInTest rfl

theorem State.cutInTested_cueStop (s : State) : CutInTested s s.cueStop := .of_cutInTest rfl

/-- The test does not look at the cycle beyond the lesson state. -/
theorem CutInTested.putCycle {s t : State} {c : Cycle} (h : CutInTested s t) (hlesson : c.lesson = t.cycle.lesson) :
    CutInTested s (t.putCycle c) :=
  Eq.trans h (State.cutInTest_arbiter_congr rfl hlesson.symm rfl rfl rfl)

/-! ### The places under the shared operations -/

@[simp] theorem State.place_mapResult (s : State) (i : Nat) (f : ResultRecord → ResultRecord) (src : Source) :
    (s.mapResult i f).place src = s.place src := rfl

theorem State.pending_arrive (s : State) (u : Utterance) :
    ((s.arrive u).place u.source).pending = (s.place u.source).pending ++ [u] := by
  rw [State.place_arrive_self]

theorem State.backup_arrive (s : State) (u : Utterance) (src : Source) :
    ((s.arrive u).place src).backup = (s.place src).backup := by
  by_cases h : src = u.source
  · rw [h, State.place_arrive_self]
  · rw [State.place_arrive_ne _ _ h]

theorem State.place_arrive_of_nothing {s : State} {u : Utterance} (h : s.place u.source = ⟨[], none⟩) :
    (s.arrive u).place u.source = ⟨[u], none⟩ := by
  rw [State.place_arrive_self, h]
  rfl

end Sys2Proof.Machine
end

section
/-! PROOFS. SET_INTAKE, SET_CUE and SET_JUDGE (O25), and RELEASE with the letter and pass holds (O23). -/

namespace Sys2Proof.Machine

/-! ### What a taken frame leaves -/

theorem Takes.intake {s u : State} {f : HostFrame} (h : Takes s f u) : u.intake = s.intake :=
  h.sameBut.2.2 .intake (by simp)

theorem Takes.judge {s u : State} {f : HostFrame} (h : Takes s f u) : u.judge = s.judge :=
  h.sameBut.2.2 .judge (by simp)

theorem Takes.cue {s u : State} {f : HostFrame} (h : Takes s f u) : u.cue = s.cue :=
  h.sameBut.2.2 .cue (by simp)

/-! ### The settings that are stored -/

/-- A setting that shapes a lesson is carried out where each of its checks holds (09 R156, log 10). -/
theorem lessonSetting_accepted {s u : State} {kind tag : Byte} {p : List Byte} {sizeOk valuesOk : Bool}
    {k : State → Answer} (hkind : knownKind kind = true) (hsize : sizeOk = true) (hvalues : valuesOk = true)
    (h : Takes s ⟨kind, tag, p⟩ u) (hop : s.op ≠ .doze) (hidle : s.cycle.lesson.current = false) :
    (s.command kind tag p fun s => s.lessonSetting sizeOk valuesOk (k s)) =
      .next ((k u).state.replied (kind + 0x80) tag (k u).result (k u).payload) := by
  have hreply : replyKind kind = kind + 0x80 := if_pos hkind
  rw [State.command_of_takes _ h, hreply, State.lessonSetting, h.op, h.lessonIdle]
  simp [hop, hidle, hsize, hvalues]

@[simp] theorem flagOf_flagByte (b : Bool) : flagOf (flagByte b).toNat = some b := by cases b <;> rfl

theorem checkModeOf_flagByte (b : Bool) : checkModeOf (flagByte b).toNat = some (if b = true then .guided else .free) := by
  cases b <;> rfl

theorem intakeSettingsOf_flags (a b c d e m : Bool) :
    intakeSettingsOf [flagByte a, flagByte b, flagByte c, flagByte d, flagByte e, flagByte m] =
      some ⟨a, b, c, d, e, if m = true then .guided else .free⟩ := by
  simp [intakeSettingsOf, field, checkModeOf_flagByte]

theorem markRuleOf_of_le {n : Nat} (h : n ≤ 1) : markRuleOf n = some (if n = 0 then .strict else .skip) := by
  match n, h with
  | 0, _ => rfl
  | 1, _ => rfl

/-- Settles O25: every check of the three settings holds, and each stores what its payload reads. -/
theorem lessonSettingsAreStored : Obligations.LessonSettingsAreStored := by
  refine ⟨fun s u tag a b c d e m h hop hidle => ?_, fun s u tag r0 r1 b0 b1 lim h hop hidle => ?_,
    fun s u tag th tries rule h hop hidle hrule => ?_⟩
  · have hread := intakeSettingsOf_flags a b c d e m
    refine (lessonSetting_accepted (by decide) rfl (by rw [hread]; rfl) h hop hidle).trans ?_
    rw [hread, h.intake]
    rfl
  · refine (lessonSetting_accepted (by decide) rfl rfl h hop hidle).trans ?_
    rw [h.cue]
    rfl
  · have hread : markRuleOf (field [th, tries, rule] 2) = some (if rule.toNat = 0 then .strict else .skip) :=
      markRuleOf_of_le hrule
    refine (lessonSetting_accepted (by decide) rfl (Option.isSome_of_eq_some hread) h hop hidle).trans ?_
    rw [hread, h.judge, ← h.cycle]
    rfl

/-! ### RELEASE (02 R35) -/

/-- A RELEASE frame that the row takes is answered by the checks of 02 R35 in order. -/
theorem releaseCommand_of_takes {s u : State} {target : Nat} {tag : Byte} {p : List Byte} (owner : State → Answer)
    (hfits : releaseRowFits target p = true) (h : Takes s ⟨0x27, tag, p⟩ u) :
    s.releaseCommand target tag p owner =
      .next ((u.release p owner).state.replied 0xA7 tag (u.release p owner).result (u.release p owner).payload) := by
  rw [State.releaseCommand, if_pos hfits, State.command_of_takes _ h, show replyKind 0x27 = 0xA7 by decide]

/-- Whatever its target, a RELEASE is refused outside READY, of a wrong size, and with an undefined target. -/
theorem releaseCommand_refused {s u : State} {target : Nat} {tag : Byte} {p : List Byte} (owner : State → Answer)
    (hfits : releaseRowFits target p = true) (h : Takes s ⟨0x27, tag, p⟩ u) :
    (s.op ≠ .ready → s.releaseCommand target tag p owner = .next (u.replied 0xA7 tag .state [])) ∧
    (s.op = .ready → p.length ≠ 1 → s.releaseCommand target tag p owner = .next (u.replied 0xA7 tag .length [])) ∧
    (s.op = .ready → p.length = 1 → 2 < field p 0 →
      s.releaseCommand target tag p owner = .next (u.replied 0xA7 tag .range [])) := by
  rw [releaseCommand_of_takes owner hfits h, State.release, h.op]
  refine ⟨fun hop => ?_, fun hop hsize => ?_, fun hop hsize hcode => ?_⟩
  · simp [hop]
  · simp [hop, hsize]
  · simp [hop, hsize, Nat.not_le.mpr hcode]

theorem releaseTarget_eq_some {p : List Byte} {n : Nat} (h : releaseTarget p = some n) :
    ∃ target : Byte, p = [target] ∧ target.toNat ≤ 2 ∧ target.toNat = n := by
  unfold releaseTarget at h
  split at h
  · next b =>
    split at h
    · next hle => exact ⟨b, rfl, hle, Option.some.inj h⟩
    · cases h
  · cases h

/-- A row takes the frames of its own target and those that name none (log 11). -/
theorem releaseRowFits_of {n : Nat} {p : List Byte}
    (h : ∀ target : Byte, p = [target] → target.toNat ≤ 2 → target.toNat = n) : releaseRowFits n p = true := by
  unfold releaseRowFits
  split
  · next m hm =>
    obtain ⟨target, hp, hle, rfl⟩ := releaseTarget_eq_some hm
    exact decide_eq_true (h target hp hle)
  · rfl

/-- A RELEASE that names its target is answered in READY by the target's own hold. -/
theorem releaseCommand_ready {s u : State} {tag target : Byte} (owner : State → Answer)
    (h : Takes s ⟨0x27, tag, [target]⟩ u) (hop : s.op = .ready) (hle : target.toNat ≤ 2) :
    s.releaseCommand target.toNat tag [target] owner =
      .next ((owner u).state.replied 0xA7 tag (owner u).result (owner u).payload) := by
  have hfits : releaseRowFits target.toNat [target] = true := releaseRowFits_of fun b hb _ => by cases hb; rfl
  have hcode : field [target] 0 ≤ 2 := hle
  rw [releaseCommand_of_takes owner hfits h, State.release, h.op]
  simp [hop, hcode]

/-- Settles O23: the shared checks refuse alike in the three rows, and each hold's own check decides the rest. -/
theorem releaseClosesItsHold : Obligations.ReleaseClosesItsHold := by
  constructor
  · intro s u tag p c h hc hrow
    simp only [List.mem_cons, List.not_mem_nil, or_false] at hc
    rcases hc with rfl | rfl | rfl
    · refine releaseCommand_refused (target := 0) _ (releaseRowFits_of fun target hp hle => ?_) h
      have hcode := hrow target hp hle
      split at hcode
      · next hzero => rw [hzero]; rfl
      · split at hcode <;> cases hcode
    · refine releaseCommand_refused (target := 1) _ (releaseRowFits_of fun target hp hle => ?_) h
      have hcode := hrow target hp hle
      split at hcode
      · cases hcode
      · split at hcode
        · next hone => rw [hone]; rfl
        · cases hcode
    · refine releaseCommand_refused (target := 2) _ (releaseRowFits_of fun target hp hle => ?_) h
      have hcode := hrow target hp hle
      split at hcode
      · cases hcode
      · next hzero =>
        split at hcode
        · cases hcode
        · next hone => bv_omega
  · intro s u tag hop
    refine ⟨fun h => ?_, fun h => ?_⟩
    · refine (releaseCommand_ready (target := 0) State.releaseLetterHold h hop (by decide)).trans ?_
      rw [State.releaseLetterHold, h.intake]
      cases s.intake.letterHold <;> rfl
    · refine (releaseCommand_ready (target := 1) State.releasePassHold h hop (by decide)).trans ?_
      rw [State.releasePassHold, h.intake]
      cases s.intake.passHold <;> rfl

end Sys2Proof.Machine
end

section
/-! PROOFS. The head of the ring (02 R19 to R22): which heads wait (O16), the PASS heads and the discarded ones (O15), and what
the rows of an acting head answer. -/

namespace Sys2Proof.Machine

/-! ### The intake state (02 R19) -/

/-- The lesson asks for symbols: the third row of the table of 02 R19. -/
def State.answering (s : State) : Prop := s.cycle.lesson = .running ∧ s.cycle.phase = .answering

theorem State.intakeState_iff (s : State) :
    (s.intakeState = .heldPass ↔ s.intake.passHold = true) ∧
    (s.intakeState = .heldLetter ↔ s.intake.passHold = false ∧ s.intake.letterHold = true) ∧
    (s.intakeState = .taking ↔ s.intake.passHold = false ∧ s.intake.letterHold = false ∧ s.answering) ∧
    (s.intakeState = .idle ↔ s.intake.passHold = false ∧ s.intake.letterHold = false ∧ ¬s.answering) := by
  unfold State.intakeState State.answering
  cases hpass : s.intake.passHold
  · cases hletter : s.intake.letterHold
    · by_cases hanswering : s.cycle.lesson = .running ∧ s.cycle.phase = .answering <;> simp [hanswering]
    · simp
  · simp

/-! ### The head of the ring -/

theorem State.head_of {s : State} {e : KeyEvent} {rest : List KeyEvent} (h : s.ring.events = e :: rest) :
    s.head = some e := by
  rw [State.head, h, List.head?_cons]

theorem State.headRole_of {s : State} {e : KeyEvent} {rest : List KeyEvent} (h : s.ring.events = e :: rest) :
    s.headRole = some e.role := by
  rw [State.headRole, State.head_of h, Option.map_some]

theorem State.popHead_of {s : State} {e : KeyEvent} {rest : List KeyEvent} (h : s.ring.events = e :: rest) :
    s.popHead = { s with ring := { s.ring with events := rest } } := by
  rw [State.popHead, h, List.tail_cons]
  rfl

theorem State.sameBut_popHead (s : State) : SameBut [.ring] s s.popHead :=
  ⟨rfl, rfl, fun b hb => by cases b <;> first | rfl | simp at hb⟩

/-! ### Heads that wait (02 R22, R34; log 3) -/

theorem State.passTakeable_of_passHold {s : State} (h : s.intake.passHold = true) : s.passTakeable = false := by
  simp [State.passTakeable, h]

theorem State.not_discardable {s : State} (h : s.intake.passHold = true ∨ s.cycle.lesson.current = true) :
    s.discardable = false := by
  rcases h with h | h <;> simp [State.discardable, State.lessonIdle, h]

theorem execTakePass_waits {s : State} (h : s.intake.passHold = true) : exec .takePass s = .next s := by
  show execTakePass s = _
  rw [execTakePass, State.occurs_not _ _ (.inr (State.passTakeable_of_passHold h))]

theorem execDiscardHead_waits {s : State} (h : s.intake.passHold = true ∨ s.cycle.lesson.current = true) :
    exec .discardHead s = .next s := by
  show execDiscardHead s = _
  rw [execDiscardHead, State.occurs_not _ _ (.inr (State.not_discardable h))]

theorem State.actsOn_eq_false {s : State} (h : s.intakeState ≠ .taking) (r : Role) : s.actsOn r = false := by
  simp [State.actsOn, h]

/-- The six rows that act on a head occur under its role. -/
theorem exec_acting_eq_occurs (s : State) {c : Instr}
    (hc : c ∈ [Instr.takeLetter, .takeRubout, .takeGo, .takeSpace, .takeHear, .takeHint]) :
    ∃ r f, exec c s = s.occurs (s.actsOn r) f := by
  simp only [List.mem_cons, List.not_mem_nil, or_false] at hc
  rcases hc with rfl | rfl | rfl | rfl | rfl | rfl
  · exact ⟨.letter, _, by rw [exec, execTakeLetter]⟩
  · exact ⟨.rubout, _, by rw [exec, execTakeRubout]⟩
  · exact ⟨.go, _, by rw [exec, execTakeGo]⟩
  · exact ⟨.space, _, by rw [exec, execTakeSpace]⟩
  · exact ⟨.hear, _, by rw [exec, execTakeHear]⟩
  · exact ⟨.hint, _, by rw [exec, execTakeHint]⟩

/-- The rows that act on a head wait in every intake state but TAKING. -/
theorem exec_acting_waits {s : State} {c : Instr} (h : s.intakeState ≠ .taking)
    (hc : c ∈ [Instr.takeLetter, .takeRubout, .takeGo, .takeSpace, .takeHear, .takeHint]) : exec c s = .next s := by
  obtain ⟨r, f, heq⟩ := exec_acting_eq_occurs s hc
  rw [heq, State.occurs_not _ _ (.inr (State.actsOn_eq_false h r))]

/-- Settles O16: the intake state by its table, and each row's condition fails for a head that waits. -/
theorem headsWait : Obligations.HeadsWait := by
  refine ⟨State.intakeState_iff, fun s c hc hwait => ?_⟩
  obtain ⟨-, -, htaking, -⟩ := s.intakeState_iff
  have hnot : s.intakeState ≠ .taking := by
    intro h
    obtain ⟨hpass, hletter, hrunning, hphase⟩ := htaking.mp h
    simp [hpass, hletter, hrunning, hphase] at hwait
  rcases List.mem_cons.mp hc with rfl | hc
  · exact execTakePass_waits (hwait.resolve_right fun h => h.1 rfl)
  · rcases List.mem_cons.mp hc with rfl | hc
    · refine execDiscardHead_waits (hwait.imp_right fun hlesson => ?_)
      rcases hlesson with ⟨-, hpaused | ⟨hrunning, -⟩⟩
      · rw [hpaused]; rfl
      · rw [hrunning]; rfl
    · exact exec_acting_waits hnot hc

/-! ### PASS heads and discarded heads (02 R21, R22) -/

/-- Settles O15: the head is at hand, so the row takes it; the pass hold follows its setting. -/
theorem passHeadsAndDiscardedHeads : Obligations.PassHeadsAndDiscardedHeads := by
  refine ⟨fun s e rest hlow hop hring hrole hpass => ?_, fun s h => execTakePass_waits h,
    fun s e rest hlow hop hring hrole hlesson hpass => ?_⟩
  · have htakeable : s.passTakeable = true := by simp [State.passTakeable, hop, State.headRole_of hring, hrole, hpass]
    show execTakePass s = _
    rw [execTakePass, s.occurs_of _ hlow htakeable, State.head_of hring, State.popHead_of hring]
    by_cases hsetting : s.intake.settings.passHold = true
    · refine congrArg Host.Outcome.next ((if_pos hsetting).trans ?_)
      rw [hsetting]
      rfl
    · have hkept : { s.intake with passHold := s.intake.settings.passHold } = s.intake := by
        rw [Bool.eq_false_iff.mpr hsetting, ← hpass]
      refine congrArg Host.Outcome.next ((if_neg hsetting).trans ?_)
      rw [hkept]
      rfl
  · have hdiscardable : s.discardable = true := by
      simp [State.discardable, State.lessonIdle, hop, State.head_of hring, State.headRole_of hring, hrole, hlesson, hpass]
    show execDiscardHead s = _
    rw [execDiscardHead, s.occurs_of _ hlow hdiscardable, State.popHead_of hring]

/-! ### The rows of an acting head (02 R22) -/

section

variable {s : State} {e : KeyEvent} {rest : List KeyEvent}

theorem State.actingHead.ring_popHead (h : s.actingHead e rest) : s.popHead.ring = { s.ring with events := rest } := by
  obtain ⟨-, -, -, -, -, -, hring⟩ := h
  rw [State.popHead_of hring]

theorem State.actingHead.popHead (h : s.actingHead e rest) :
    s.popHead = { s with ring := { s.ring with events := rest } } := by
  obtain ⟨-, -, -, -, -, -, hring⟩ := h
  exact State.popHead_of hring

theorem State.actingHead.head (h : s.actingHead e rest) : s.head = some e := by
  obtain ⟨-, -, -, -, -, -, hring⟩ := h
  exact State.head_of hring

/-- The head that acts is taken by the row of its role. -/
theorem State.actingHead.occurs (h : s.actingHead e rest) {r : Role} (hrole : e.role = r) (f : State → State) :
    s.occurs (s.actsOn r) f = .next (f s) := by
  obtain ⟨hlow, hop, hlesson, hphase, hletter, hpass, hring⟩ := h
  have htaking : s.intakeState = .taking := s.intakeState_iff.2.2.1.mpr ⟨hpass, hletter, hlesson, hphase⟩
  exact s.occurs_of f hlow (by simp [State.actsOn, hop, State.headRole_of hring, hrole, htaking])

theorem execTakeLetter_of (h : s.actingHead e rest) (hrole : e.role = .letter) :
    exec .takeLetter s = .next
      (if s.letterPasses e.symbol then s.popHead.letterTyped e.symbol else s.popHead.guidedRefusal) := by
  show execTakeLetter s = _
  rw [execTakeLetter, h.occurs hrole, h.head]
  rfl

theorem execTakeRubout_of (h : s.actingHead e rest) (hrole : e.role = .rubout) :
    exec .takeRubout s = .next (s.popHead.rubout.cueLoad s.popHead.rubout.cue.stretch) := by
  show execTakeRubout s = _
  rw [execTakeRubout, h.occurs hrole]

/-- GO, and SPACE with space-ends-word on, submit the Attempt (02 R29). -/
theorem exec_submit_of (h : s.actingHead e rest) {c : Instr} (hc : (c = .takeGo ∧ e.role = .go) ∨
    (c = .takeSpace ∧ e.role = .space ∧ s.intake.settings.spaceEndsWord = true)) :
    exec c s = .next s.popHead.submit := by
  rcases hc with ⟨rfl, hrole⟩ | ⟨rfl, hrole, hends⟩
  · show execTakeGo s = _
    rw [execTakeGo, h.occurs hrole]
  · show execTakeSpace s = _
    rw [execTakeSpace, h.occurs hrole, if_pos hends]

theorem execTakeSpace_ignored (h : s.actingHead e rest) (hrole : e.role = .space)
    (hends : s.intake.settings.spaceEndsWord = false) : exec .takeSpace s = .next s.popHead := by
  show execTakeSpace s = _
  rw [execTakeSpace, h.occurs hrole, if_neg (by simp [hends])]

theorem execTakeHear_of (h : s.actingHead e rest) (hrole : e.role = .hear) :
    exec .takeHear s = .next s.popHead.hearRequest := by
  show execTakeHear s = _
  rw [execTakeHear, h.occurs hrole]

theorem execTakeHint_of (h : s.actingHead e rest) (hrole : e.role = .hint) : exec .takeHint s = .next s.popHead.hint := by
  show execTakeHint s = _
  rw [execTakeHint, h.occurs hrole]

end

end Sys2Proof.Machine
end

section
/-! PROOFS. The refused letter (O18), RUBOUT (O19), GO (O20), the hear request (O21) and HINT (O22). Each operation gets its
equation or its facts over the shared operations, and the row is that operation on the ring without its head. -/

namespace Sys2Proof.Machine

/-! ### The guided check and its refusal (02 R26, R27) -/

theorem guidedAccepts_iff (rule : MarkRule) (T A : List Nat) (sym : Nat) :
    guidedAccepts rule T A sym = true ↔
      (rule = .skip ∧ isMark sym = true) ∨ expectedSymbol rule T A = some sym := by
  simp [guidedAccepts]

theorem guidedAccepts_strict (T A : List Nat) (sym : Nat) :
    guidedAccepts .strict T A sym = decide (T[A.length]? = some sym) := by
  rw [Bool.eq_iff_iff, guidedAccepts_iff, decide_eq_true_iff]
  simp [expectedSymbol, reduce]

theorem guidedAccepts_skip_mark (T A : List Nat) {sym : Nat} (h : isMark sym = true) :
    guidedAccepts .skip T A sym = true :=
  (guidedAccepts_iff _ _ _ _).mpr (.inl ⟨rfl, h⟩)

theorem guidedAccepts_skip_letter (T A : List Nat) {sym : Nat} (h : isMark sym = false) :
    guidedAccepts .skip T A sym =
      decide ((T.filter fun x => !isMark x)[(A.filter fun x => !isMark x).length]? = some sym) := by
  rw [Bool.eq_iff_iff, guidedAccepts_iff, decide_eq_true_iff]
  simp [expectedSymbol, reduce, h]

/-- The letter-error tally after a refusal (02 R27, 04 R79). -/
def Judge.countRefusal (j : Judge) (w : Nat) : Judge :=
  { j with letterErrors := if j.inWindow w then tallyAdd j.letterErrors 1 else j.letterErrors }

/-- A refusal is counted (02 R27): by the word's record, and by the tally of the window. -/
def State.countRefusal (s : State) : State :=
  (s.mapResult s.cycle.index fun r => { r with refusals := saturatingAdd 255 r.refusals 1 }).putJudge
    (s.judge.countRefusal s.cycle.index)

theorem State.guidedRefusal_eq (s : State) :
    s.guidedRefusal =
      if s.verdictRoom then s.countRefusal.arrive (compose .verdict .oops [s.phrase .oops]) else s.countRefusal := by
  unfold State.guidedRefusal
  extract_lets a judge b
  have hcounted : b = s.countRefusal := by
    unfold b State.countRefusal Judge.countRefusal
    cases hwindow : s.judge.inWindow s.cycle.index
    · exact if_neg (Bool.eq_false_iff.mp hwindow)
    · exact if_pos hwindow
  rw [hcounted]
  rfl

theorem State.sameBut_countRefusal (s : State) : SameBut [.cycle, .judge] s s.countRefusal :=
  (s.sameBut_putCycle _).trans (State.sameBut_putJudge _ _)

theorem State.verdictRoom_iff (s : State) : s.verdictRoom = true ↔ (s.place .verdict).pending.length < 4 :=
  decide_eq_true_iff

theorem State.not_letterPasses {s : State} {sym : Nat} (hmode : s.intake.settings.checkMode = .guided)
    (h : guidedAccepts s.judge.rule s.target s.intake.attempt sym = false) : ¬s.letterPasses sym = true := by
  simp [State.letterPasses, hmode, h]

/-- Settles O18: the check by its cases; a refusal is counted, and its OOPS arrives where VERDICT has room. -/
theorem guidedCheckAndRefusal : Obligations.GuidedCheckAndRefusal := by
  refine ⟨fun T A sym => ⟨guidedAccepts_strict T A sym, guidedAccepts_skip_mark T A, guidedAccepts_skip_letter T A⟩, ?_⟩
  intro s e rest h hrole hmode hrefused
  refine ⟨s.popHead.guidedRefusal, ?_, ?_⟩
  · rw [execTakeLetter_of h hrole, if_neg (State.not_letterPasses hmode hrefused)]
  have hcounted : SameBut [.ring, .cycle, .judge] s s.popHead.countRefusal :=
    s.sameBut_popHead.trans (State.sameBut_countRefusal _)
  have hjudge : s.popHead.countRefusal.judge = { s.judge with
      letterErrors :=
        if s.judge.windowStart ≤ s.cycle.index ∧ s.cycle.index < s.judge.windowStart + s.judge.windowLength then
          min 65535 (s.judge.letterErrors + 1)
        else s.judge.letterErrors } :=
    congrArg (fun n => { s.judge with letterErrors := n }) (ite_congr decide_eq_true_eq (fun _ => rfl) fun _ => rfl)
  have hiff : s.popHead.verdictRoom = true ↔ (s.place .verdict).pending.length < 4 := s.popHead.verdictRoom_iff
  by_cases hroom : (s.place .verdict).pending.length < 4
  · rw [State.guidedRefusal_eq, if_pos (hiff.mpr hroom), if_pos hroom]
    refine ⟨(hcounted.trans (State.sameBut_arrive _ _)).mono (by decide), ?_, ?_, ?_, ?_, fun src hne => ?_, ?_, ?_⟩
    · exact (State.arrive_ring _ _).trans h.ring_popHead
    · exact State.arrive_cycle _ _
    · exact (State.arrive_judge _ _).trans hjudge
    · exact State.arrive_phrases _ _
    · exact State.place_arrive_ne _ _ hne
    · exact State.place_arrive_self _ (compose .verdict .oops _)
    · exact State.cutInTested_arrive s.popHead.countRefusal _
  · rw [State.guidedRefusal_eq, if_neg (mt hiff.mp hroom), if_neg hroom]
    exact ⟨hcounted.mono (by decide), h.ring_popHead, rfl, hjudge, rfl, fun _ _ => rfl, rfl, rfl⟩

/-! ### RUBOUT (02 R28) -/

theorem withdrawNewest_of_none {sym : Nat} {us : List Utterance} (h : ∀ u ∈ us, u.echoes sym = false) :
    withdrawNewest sym us = us := by
  cases us with
  | nil => rfl
  | cons u rest =>
    rw [List.forall_mem_cons] at h
    obtain ⟨hu, hrest⟩ := h
    have hany : (rest.any fun v => v.echoes sym) = false := List.any_eq_false.mpr fun v hv => by simp [hrest v hv]
    simp [withdrawNewest, hany, hu]

/-- The newest echo is the one behind which no other stands. -/
theorem withdrawNewest_of_newest {sym : Nat} {u : Utterance} {before after : List Utterance} (hu : u.echoes sym = true)
    (hafter : ∀ v ∈ after, v.echoes sym = false) :
    withdrawNewest sym (before ++ u :: after) = before ++ after := by
  induction before with
  | nil =>
    have hany : (after.any fun v => v.echoes sym) = false := List.any_eq_false.mpr fun v hv => by simp [hafter v hv]
    simp [withdrawNewest, hany, hu]
  | cons v rest ih =>
    have hany : ((rest ++ u :: after).any fun v => v.echoes sym) = true := by simp [hu]
    rw [List.cons_append, withdrawNewest, if_pos hany, ih, List.cons_append]

/-- The pending echoes after a RUBOUT: with a last symbol, its newest echo is gone. -/
def rubbedOut (attempt : List Nat) (us : List Utterance) : List Utterance :=
  match attempt.getLast? with
  | none => us
  | some sym => withdrawNewest sym us

theorem State.rubout_eq (s : State) :
    s.rubout = (s.putIntake { s.intake with attempt := s.intake.attempt.dropLast }).putPlace .echo
      { s.place .echo with pending := rubbedOut s.intake.attempt (s.place .echo).pending } := by
  unfold State.rubout rubbedOut
  cases hlast : s.intake.attempt.getLast? with
  | none =>
    have hempty : s.intake.attempt = [] := List.getLast?_eq_none_iff.mp hlast
    have hkept : s.intake.attempt.dropLast = s.intake.attempt := by rw [hempty, List.dropLast_nil]
    rw [hkept]
    rfl
  | some sym => rfl

/-- Settles O19: the Attempt and its newest pending echo are taken back, then the timer is loaded with its own stretch. -/
theorem ruboutTakesBack : Obligations.RuboutTakesBack := by
  intro s e rest h hrole
  have hframe : SameBut [.ring, .intake, .sources] s s.popHead.rubout := by
    rw [State.rubout_eq]
    exact (s.sameBut_popHead.trans (State.sameBut_putIntake _ _)).trans (State.sameBut_putPlace _ _ _)
  have hecho : s.popHead.rubout.place .echo =
      { s.place .echo with pending := rubbedOut s.intake.attempt (s.place .echo).pending } := by
    rw [State.rubout_eq]
    exact State.place_putPlace_self _ _ _
  have hcue : s.popHead.rubout.cue = s.cue := hframe.2.2 .cue (by simp)
  have harbiter : s.popHead.rubout.arbiter = s.arbiter := hframe.2.2 .arbiter (by simp)
  refine ⟨_, execTakeRubout_of h hrole, (hframe.trans (State.sameBut_cueLoad _ _)).mono (by decide), ?_⟩
  simp only [State.cueLoad_ring, State.cueLoad_intake, State.cueLoad_cue, State.cueLoad_sources, State.place_cueLoad, hcue,
    hecho]
  refine ⟨?_, ?_, trivial, ?_, fun src hne => ?_, trivial, fun hempty => ?_, fun sym hlast => ⟨fun hnone => ?_, ?_⟩, ?_⟩
  · rw [State.rubout_eq]
    exact h.ring_popHead
  · rw [State.rubout_eq]
    rfl
  · rw [State.rubout_eq]
    rfl
  · rw [State.rubout_eq]
    exact State.place_putPlace_ne _ _ hne
  · rw [hempty]
    rfl
  · rw [rubbedOut, hlast]
    exact withdrawNewest_of_none hnone
  · intro before u after hsplit hu hafter
    rw [rubbedOut, hlast, hsplit]
    exact withdrawNewest_of_newest hu hafter
  · exact .of_cutInTest harbiter

/-! ### GO (02 R29, 03 R54, 04 R63) -/

theorem State.currentResult_mapResult {s : State} (f : ResultRecord → ResultRecord)
    (h : s.cycle.index < s.cycle.results.length) :
    (s.mapResult s.cycle.index f).currentResult = f s.currentResult := by
  simp [State.currentResult, State.mapResult, List.getD_eq_getElem?_getD, h]

theorem Utterance.not_isAside (u : Utterance) : (!u.isAside) = decide (u.kind ≠ .oops ∧ u.kind ≠ .hint) := by
  simp [Utterance.isAside]

theorem Place.dropAsides_eq (p : Place) :
    p.dropAsides =
      ⟨p.pending.filter fun u => decide (u.kind ≠ .oops ∧ u.kind ≠ .hint),
        p.backup.filter fun u => decide (u.kind ≠ .oops ∧ u.kind ≠ .hint)⟩ := by
  simp only [Place.dropAsides, Utterance.not_isAside]

/-- Judging begins (03 R54, 04 R63): each block that changes, the places, and the cut-in test of the timer's stop. -/
theorem State.judgingBegin_spec {s : State} (hindex : s.cycle.index < s.cycle.results.length) :
    SameBut [.cycle, .sources, .judge, .cue, .arbiter] s s.judgingBegin ∧
    s.judgingBegin.cycle = { s.cycle with
      phase := .judging
      results := s.cycle.results.modify s.cycle.index fun r => { r with tries := r.tries + 1 } } ∧
    s.judgingBegin.judge = { s.judge with
      working := some ⟨s.cycle.index, s.currentResult.tries + 1, s.intake.attempt, s.target, s.judge.rule,
        s.judge.pairs⟩ } ∧
    s.judgingBegin.cue = s.cue.stopped ∧ s.judgingBegin.sources.phrases = s.sources.phrases ∧
    (∀ src, src ≠ .verdict → s.judgingBegin.place src = s.place src) ∧
    s.judgingBegin.place .verdict = (s.place .verdict).dropAsides ∧ CutInTested s s.judgingBegin := by
  have htries := State.currentResult_mapResult (fun r => { r with tries := r.tries + 1 }) hindex
  refine ⟨?_, ?_, ?_, ?_, ?_, fun src hne => ?_, ?_, ?_⟩
  · exact (((((s.sameBut_putCycle _).trans (State.sameBut_putPlace _ _ _)).trans (State.sameBut_putJudge _ _)).trans
      (State.sameBut_cueStop _)).trans (State.sameBut_putCycle _ _)).mono (by decide)
  · simp [State.judgingBegin, State.mapResult_eq]
  · simp only [State.judgingBegin, State.putCycle_judge, State.cueStop_judge, State.putJudge_judge]
    exact congrArg (fun n => { s.judge with
      working := some ⟨s.cycle.index, n, s.intake.attempt, s.target, s.judge.rule, s.judge.pairs⟩ })
      (congrArg ResultRecord.tries htries)
  · simp [State.judgingBegin, State.mapResult_eq]
  · simp [State.judgingBegin, State.mapResult_eq]
  · simp [State.judgingBegin, State.place_putPlace_ne _ _ hne]
  · simp [State.judgingBegin]
  · exact CutInTested.putCycle (State.cutInTested_cueStop _) rfl

/-- Settles O20: with something typed the submission is the beginning of judging. -/
theorem goBeginsJudging : Obligations.GoBeginsJudging := by
  intro s c e rest h hc htyped hindex
  have hsubmit : s.popHead.submit = s.popHead.judgingBegin := if_neg (mt List.isEmpty_iff.mp htyped)
  obtain ⟨hframe, hcycle, hjudge, hcue, hphrases, hplaces, hverdict, htested⟩ :=
    State.judgingBegin_spec (s := s.popHead) hindex
  refine ⟨_, exec_submit_of h hc, ?_⟩
  rw [hsubmit]
  refine ⟨(s.sameBut_popHead.trans hframe).mono (by decide), ?_, hcycle, hjudge, hcue, hphrases, hplaces,
    hverdict.trans (Place.dropAsides_eq _), htested⟩
  exact (hframe.2.2 .ring (by simp)).trans h.ring_popHead

/-! ### The hear request (02 R30) -/

/-- A hear request is granted when nothing of WORD is pending, backed up or sounding. -/
theorem State.hearGranted_iff (s : State) :
    s.hearGranted = true ↔ s.place .word = ⟨[], none⟩ ∧ s.sounding .word = false := by
  have hholds : s.holds .word = ((s.place .word).backup.isSome || !(s.place .word).pending.isEmpty) := rfl
  rw [State.hearGranted, hholds]
  generalize s.place .word = p
  obtain ⟨pending, backup⟩ := p
  cases pending <;> cases backup <;> simp

theorem State.submit_of_nothing {s : State} (h : s.intake.attempt = []) : s.popHead.submit = s.popHead.hearRequest :=
  if_pos (List.isEmpty_iff.mpr h)

/-- Settles O21: each of the three rows makes a hear request, which arrives at WORD or is passed over. -/
theorem hearRequests : Obligations.HearRequests := by
  constructor
  · intro s c e rest h hc
    have hexec : exec c s = .next s.popHead.hearRequest := by
      rcases hc with ⟨rfl, hrole⟩ | ⟨rfl, hrole, hnothing⟩ | ⟨rfl, hrole, hends, hnothing⟩
      · exact execTakeHear_of h hrole
      · rw [exec_submit_of h (.inl ⟨rfl, hrole⟩), State.submit_of_nothing hnothing]
      · rw [exec_submit_of h (.inr ⟨rfl, hrole, hends⟩), State.submit_of_nothing hnothing]
    rw [hexec]
    refine ⟨fun hfree => ?_, fun hbusy => ?_⟩
    · have hgranted : s.popHead.hearRequest = s.popHead.arrive (compose .word .hearPrompt [.word, .sentence, .word]) :=
        if_pos ((State.hearGranted_iff _).mpr hfree)
      rw [hgranted]
      refine ⟨_, rfl, s.sameBut_popHead.trans (State.sameBut_arrive _ _), ?_, ?_, ?_, ?_, ?_⟩
      · exact (State.arrive_ring _ _).trans h.ring_popHead
      · exact State.arrive_phrases _ _
      · exact fun src hne => State.place_arrive_ne _ _ hne
      · exact State.place_arrive_of_nothing (u := compose .word .hearPrompt _) hfree.1
      · exact State.cutInTested_arrive s.popHead _
    · have hrefused : s.popHead.hearRequest = s.popHead := if_neg fun hgranted => by
        obtain ⟨hplace, hsilent⟩ := (State.hearGranted_iff _).mp hgranted
        rcases hbusy with hbusy | hbusy
        · exact hbusy hplace
        · exact absurd (hbusy.symm.trans hsilent) (by simp)
      rw [hrefused, h.popHead]
  · intro s e rest h hrole hends
    rw [execTakeSpace_ignored h hrole hends, h.popHead]

/-! ### HINT (02 R31) -/

/-- The matched length is the greatest length over which both lists agree from the front. -/
theorem le_matchedLength_iff (A T : List Nat) (k : Nat) :
    k ≤ matchedLength A T ↔ k ≤ A.length ∧ k ≤ T.length ∧ A.take k = T.take k := by
  induction A generalizing T k with
  | nil => simp +contextual [matchedLength]
  | cons a as ih =>
    cases T with
    | nil => simp +contextual [matchedLength]
    | cons t ts =>
      cases k with
      | zero => simp
      | succ k =>
        by_cases hat : a = t
        · simp [matchedLength, hat, ih]
        · simp [matchedLength, hat]

/-- The hint that a word still allows (02 R31): the next symbol of the reduced target, while there is one. -/
theorem State.grantedHint_of {s : State} {w : WordRecord} (hw : s.currentWord = some w) :
    let T := reduce s.judge.rule w.spelling
    let p := matchedLength (reduce s.judge.rule s.intake.attempt) T
    s.grantedHint = if s.currentResult.hints < w.hintsAllowed ∧ p < T.length then some (T.getD p 0) else none := by
  intro T p
  have htarget : s.target = w.spelling := by rw [State.target, hw]; rfl
  have hsymbol : hintSymbol s.judge.rule s.target s.intake.attempt = T[p]? := by rw [hintSymbol, htarget]
  rw [State.grantedHint, hw, hsymbol]
  by_cases hallowed : s.currentResult.hints < w.hintsAllowed
  · by_cases hp : p < T.length
    · simp [hallowed, hp]
    · simp [hp]
  · simp [hallowed]

/-- Settles O22: the matched length by its characterisation; with room in VERDICT, the granted hint decides what arrives. -/
theorem hintSpeaksTheNextSymbol : Obligations.HintSpeaksTheNextSymbol := by
  constructor
  · intro A T
    obtain ⟨hA, hT, htake⟩ := (le_matchedLength_iff A T _).mp (Nat.le_refl _)
    exact ⟨hA, hT, htake, fun k hkA hkT hk => (le_matchedLength_iff A T k).mpr ⟨hkA, hkT, hk⟩⟩
  · intro s e rest w h hrole hw A T p
    have hiff : s.popHead.verdictRoom = true ↔ (s.place .verdict).pending.length < 4 := s.popHead.verdictRoom_iff
    have hgranted : s.popHead.grantedHint =
        if s.currentResult.hints < w.hintsAllowed ∧ p < T.length then some (T.getD p 0) else none :=
      State.grantedHint_of (s := s.popHead) hw
    rw [execTakeHint_of h hrole, State.hint]
    refine ⟨fun hfull => ?_, fun hroom => ?_⟩
    · rw [if_neg (mt hiff.mp (Nat.not_lt.mpr hfull)), h.popHead]
    · rw [if_pos (hiff.mpr hroom), hgranted]
      by_cases hallowed : s.currentResult.hints < w.hintsAllowed ∧ p < T.length
      · simp only [if_pos hallowed]
        refine ⟨_, rfl, ((s.sameBut_popHead.trans (State.sameBut_putCycle _ _)).trans (State.sameBut_arrive _ _)).mono
          (by decide), (State.arrive_ring _ _).trans h.ring_popHead, State.arrive_phrases _ _,
          fun src hne => State.place_arrive_ne _ _ hne, ?_, ⟨State.arrive_cycle _ _, ?_⟩, ?_⟩
        · exact State.backup_arrive _ _ _
        · exact State.pending_arrive _ (compose .verdict .hint _)
        · exact State.cutInTested_arrive (s.popHead.mapResult _ _) _
      · simp only [if_neg hallowed]
        refine ⟨_, rfl, (s.sameBut_popHead.trans (State.sameBut_arrive _ _)).mono (by decide),
          (State.arrive_ring _ _).trans h.ring_popHead, State.arrive_phrases _ _,
          fun src hne => State.place_arrive_ne _ _ hne, ?_, ⟨State.arrive_cycle _ _, ?_⟩, ?_⟩
        · exact State.backup_arrive _ _ _
        · exact State.pending_arrive _ (compose .verdict .hint _)
        · exact State.cutInTested_arrive s.popHead _

end Sys2Proof.Machine
end

section
/-! PROOFS. The typed letter (O17). An offer to ECHO is cut into what its policy makes of the place, what SNAP makes of the
running utterance, and the cut-in test; the timer's load makes the second test. -/

namespace Sys2Proof.Machine

/-! ### SNAP on a sounding echo (05 R91, 06 R115) -/

/-- The state of an echo's run after SNAP reached it (06 R112). -/
def RunState.snapped : RunState → RunState
  | .playing => .fading .discardCut 0
  | .fading .restore n => .fading .discardCut n
  | .fading .discardCut n => .fading .discardCut n
  | .fading .discardStopped n => .fading .discardStopped n

theorem RunState.snapped_ne_playing (st : RunState) : st.snapped ≠ .playing := by
  unfold RunState.snapped
  split <;> simp

theorem Running.snap_of_echo {r : Running} (h : r.utterance.source = .echo) :
    r.snap = { r with state := r.state.snapped } := by
  rw [Running.snap, if_pos h]
  obtain ⟨utterance, state, cursor⟩ := r
  match state with
  | .playing | .fading .restore _ | .fading .discardCut _ | .fading .discardStopped _ => rfl

theorem Running.snap_of_ne {r : Running} (h : r.utterance.source ≠ .echo) : r.snap = r := if_neg h

/-- The arbiter as an arriving echo finds it: SNAP has reached the running utterance (05 R91). -/
def Arbiter.snapped (a : Arbiter) : Arbiter :=
  if a.echoPolicy = .snap then { a with running := a.running.map Running.snap } else a

theorem Arbiter.snapped_of_snap {a : Arbiter} (h : a.echoPolicy = .snap) :
    a.snapped = { a with running := a.running.map Running.snap } := if_pos h

theorem Arbiter.snapped_of_ne {a : Arbiter} (h : a.echoPolicy ≠ .snap) : a.snapped = a := if_neg h

theorem Arbiter.snapped_of_none {a : Arbiter} (h : a.running = none) : a.snapped = a := by
  by_cases hpolicy : a.echoPolicy = .snap
  · rw [Arbiter.snapped_of_snap hpolicy, h, Option.map_none, ← h]
  · exact Arbiter.snapped_of_ne hpolicy

theorem Arbiter.snapped_of_echo {a : Arbiter} {r : Running} (hpolicy : a.echoPolicy = .snap) (hr : a.running = some r)
    (hsource : r.utterance.source = .echo) :
    a.snapped = { a with running := some { r with state := r.state.snapped } } := by
  rw [Arbiter.snapped_of_snap hpolicy, hr, Option.map_some, Running.snap_of_echo hsource]

/-- Another policy, or another source that sounds, leaves the running utterance as it is. -/
theorem Arbiter.snapped_of_other {a : Arbiter} {r : Running} (hr : a.running = some r)
    (h : a.echoPolicy ≠ .snap ∨ r.utterance.source ≠ .echo) : a.snapped = a := by
  by_cases hpolicy : a.echoPolicy = .snap
  · have hsource := h.resolve_left fun hno => hno hpolicy
    rw [Arbiter.snapped_of_snap hpolicy, hr, Option.map_some, Running.snap_of_ne hsource, ← hr]
  · exact Arbiter.snapped_of_ne hpolicy

/-! ### A cut-in test that finds nothing to cut -/

theorem State.cutInTest_of_not_playing {s : State} (h : ∀ r, s.arbiter.running = some r → r.state ≠ .playing) :
    s.cutInTest = s := by
  rcases s.cutInTest_cases with hkept | ⟨r, hr, hplaying, -⟩
  · exact hkept
  · exact absurd hplaying (h r hr)

/-- The test does not look at the Intake, so a settled state stays settled. -/
theorem State.cutInTest_putIntake {s : State} (i : Intake) (h : s.cutInTest = s) :
    (s.putIntake i).cutInTest = s.putIntake i := by
  have harbiter : (s.putIntake i).cutInTest.arbiter = s.cutInTest.arbiter :=
    State.cutInTest_arbiter_congr rfl rfl rfl rfl rfl
  rw [State.cutInTest_eq, harbiter, h]
  rfl

/-! ### The offer to ECHO (05 R89 to R91) -/

/-- The ECHO source's places after an echo was offered under a policy. -/
def Place.offered (p : Place) (policy : EchoPolicy) (u : Utterance) : Place :=
  match policy with
  | .queue => if p.pending.length < 4 then { p with pending := p.pending ++ [u] } else p
  | .latest => { p with pending := [u] }
  | .snap => ⟨[u], none⟩

/-- The policy QUEUE drops an echo where the list is full (05 R89). -/
def State.dropsEcho (s : State) : Prop := s.arbiter.echoPolicy = .queue ∧ 4 ≤ (s.place .echo).pending.length

theorem State.echoOffer_of_dropped {s : State} (u : Utterance) (h : s.dropsEcho) : s.echoOffer u = s := by
  obtain ⟨hpolicy, hfull⟩ := h
  rw [State.echoOffer, hpolicy]
  exact if_neg (Nat.not_lt.mpr hfull)

theorem State.echoOffer_of_taken {s : State} {u : Utterance} (hu : u.source = .echo) (h : ¬s.dropsEcho) :
    s.echoOffer u =
      ((s.putArbiter s.arbiter.snapped).putPlace .echo ((s.place .echo).offered s.arbiter.echoPolicy u)).cutInTest := by
  unfold State.echoOffer
  split
  · next hpolicy =>
    have hroom : (s.place .echo).pending.length < 4 := Nat.not_le.mp fun hfull => h ⟨hpolicy, hfull⟩
    have hoffered : (s.place .echo).offered .queue u = { s.place .echo with pending := (s.place .echo).pending ++ [u] } :=
      if_pos hroom
    rw [Arbiter.snapped_of_ne (by simp [hpolicy]), hpolicy, hoffered]
    refine (if_pos hroom).trans ?_
    rw [State.arrive_eq, hu]
    rfl
  · next hpolicy =>
    rw [Arbiter.snapped_of_ne (by simp [hpolicy]), hpolicy, State.arrive_eq, hu]
    rfl
  · next hpolicy =>
    have hoffered : (s.place .echo).offered s.arbiter.echoPolicy u = ⟨[u], none⟩ := by rw [hpolicy]; rfl
    rw [Arbiter.snapped_of_snap hpolicy, hoffered, State.arrive_eq, hu]
    rfl

section

variable (s : State) {u : Utterance} (hu : u.source = .echo)

include hu

theorem State.sameBut_echoOffer : SameBut [.sources, .arbiter] s (s.echoOffer u) := by
  by_cases h : s.dropsEcho
  · rw [State.echoOffer_of_dropped u h]
    exact (SameBut.refl s).mono (by simp)
  · rw [State.echoOffer_of_taken hu h]
    exact (((s.sameBut_putArbiter _).trans (State.sameBut_putPlace _ _ _)).trans (State.sameBut_cutInTest _)).mono (by decide)

theorem State.echoOffer_phrases : (s.echoOffer u).sources.phrases = s.sources.phrases := by
  by_cases h : s.dropsEcho
  · rw [State.echoOffer_of_dropped u h]
  · simp [State.echoOffer_of_taken hu h]

theorem State.place_echoOffer_ne {src : Source} (hne : src ≠ .echo) : (s.echoOffer u).place src = s.place src := by
  by_cases h : s.dropsEcho
  · rw [State.echoOffer_of_dropped u h]
  · simp [State.echoOffer_of_taken hu h, State.place_putPlace_ne _ _ hne]

theorem State.place_echoOffer_echo :
    (s.echoOffer u).place .echo = (s.place .echo).offered s.arbiter.echoPolicy u := by
  by_cases h : s.dropsEcho
  · obtain ⟨hpolicy, hfull⟩ := h
    rw [State.echoOffer_of_dropped u ⟨hpolicy, hfull⟩, hpolicy]
    exact (if_neg (Nat.not_lt.mpr hfull)).symm
  · simp [State.echoOffer_of_taken hu h]

theorem State.echoOffer_arbiter_of_taken (h : ¬s.dropsEcho) :
    (s.echoOffer u).arbiter = ({ s.echoOffer u with arbiter := s.arbiter.snapped } : State).cutInTest.arbiter := by
  rw [State.echoOffer_of_taken hu h]
  exact State.cutInTest_arbiter_congr (by simp) (by simp) (by simp) (by simp) rfl

/-- With nothing left PLAYING, the test at the echo's arrival changes nothing. -/
theorem State.echoOffer_arbiter_of_not_playing
    (h : ∀ r, s.arbiter.snapped.running = some r → r.state ≠ .playing) :
    (s.echoOffer u).arbiter = s.arbiter.snapped := by
  by_cases hdrops : s.dropsEcho
  · rw [State.echoOffer_of_dropped u hdrops, Arbiter.snapped_of_ne (by simp [hdrops.1])]
  · rw [s.echoOffer_arbiter_of_taken hu hdrops, State.cutInTest_of_not_playing h]

end

/-! ### The letter joins the Attempt (02 R25, 07 R125) -/

/-- The echo of a symbol (05 R89). -/
def echoOf (sym : Nat) : Utterance := partUtterance .echo .echo [.letter sym]

theorem State.letterAppended_eq (s : State) (sym : Nat) :
    s.letterAppended sym = ((s.echoOffer (echoOf sym)).cueLoad 0).putIntake
      { s.intake with letterHold := s.intake.settings.eachHold || s.intake.letterHold } := by
  have hframe := (s.sameBut_echoOffer (u := echoOf sym) rfl).trans (State.sameBut_cueLoad _ 0)
  have hintake : ((s.echoOffer (echoOf sym)).cueLoad 0).intake = s.intake := hframe.2.2 .intake (by simp)
  show (if ((s.echoOffer (echoOf sym)).cueLoad 0).intake.settings.eachHold then
      ((s.echoOffer (echoOf sym)).cueLoad 0).putIntake
        { ((s.echoOffer (echoOf sym)).cueLoad 0).intake with letterHold := true }
    else (s.echoOffer (echoOf sym)).cueLoad 0) = _
  rw [← hintake]
  cases heach : ((s.echoOffer (echoOf sym)).cueLoad 0).intake.settings.eachHold
  · rfl
  · rfl

/-- What appending a symbol does (02 R25), up to the offer of its echo; the last change is a cut-in test. -/
theorem State.letterAppended_spec (s : State) (sym : Nat) :
    SameBut [.intake, .cue, .sources, .arbiter] s (s.letterAppended sym) ∧
    (s.letterAppended sym).intake =
      { s.intake with letterHold := s.intake.settings.eachHold || s.intake.letterHold } ∧
    (s.letterAppended sym).cue = s.cue.loaded 0 ∧
    (s.letterAppended sym).sources = (s.echoOffer (echoOf sym)).sources ∧
    (s.letterAppended sym).arbiter =
      ({ s.letterAppended sym with arbiter := (s.echoOffer (echoOf sym)).arbiter } : State).cutInTest.arbiter ∧
    (s.letterAppended sym).cutInTest = s.letterAppended sym := by
  have hoffer := s.sameBut_echoOffer (u := echoOf sym) rfl
  have hcue : (s.echoOffer (echoOf sym)).cue = s.cue := hoffer.2.2 .cue (by simp)
  rw [State.letterAppended_eq]
  refine ⟨?_, rfl, ?_, ?_, ?_, ?_⟩
  · exact ((hoffer.trans (State.sameBut_cueLoad _ _)).trans (State.sameBut_putIntake _ _)).mono (by decide)
  · exact (State.cueLoad_cue _ 0).trans (congrArg (CueTimer.loaded · 0) hcue)
  · rw [State.putIntake_sources, State.cueLoad_sources]
  · exact State.cutInTest_arbiter_congr (by simp) (by simp) (State.cueLoad_cue _ 0).symm (by simp) rfl
  · exact State.cutInTest_putIntake _ (State.cutInTest_twice _)

/-- With nothing left PLAYING after SNAP, neither test changes the arbiter. -/
theorem State.letterAppended_arbiter_of_not_playing {s : State} {a : Arbiter} (sym : Nat) (ha : s.arbiter.snapped = a)
    (h : ∀ r, a.running = some r → r.state ≠ .playing) : (s.letterAppended sym).arbiter = a := by
  subst ha
  obtain ⟨-, -, -, -, htested, -⟩ := s.letterAppended_spec sym
  rw [htested, s.echoOffer_arbiter_of_not_playing (u := echoOf sym) rfl h, State.cutInTest_of_not_playing h]

/-- Where SNAP reaches nothing, the echo's arrival is tested before the timer's load, and a dropped echo is not. -/
theorem State.letterAppended_arbiter_of_other {s : State} (sym : Nat) (h : s.arbiter.snapped = s.arbiter) :
    (s.letterAppended sym).arbiter = ({ s.letterAppended sym with
      arbiter :=
        if s.arbiter.echoPolicy = .queue ∧ 4 ≤ (s.place .echo).pending.length then s.arbiter
        else ({ s.letterAppended sym with arbiter := s.arbiter, cue := s.cue } : State).cutInTest.arbiter }
      : State).cutInTest.arbiter := by
  obtain ⟨hframe, -, -, hsources, htested, -⟩ := s.letterAppended_spec sym
  refine htested.trans (congrArg (fun a => ({ s.letterAppended sym with arbiter := a } : State).cutInTest.arbiter) ?_)
  split
  · next hdrops => rw [State.echoOffer_of_dropped _ hdrops]
  · next hdrops =>
    have hoffer := s.sameBut_echoOffer (u := echoOf sym) rfl
    have hop : (s.echoOffer (echoOf sym)).op = (s.letterAppended sym).op :=
      (hoffer.2.2 .op (by simp)).trans (hframe.2.2 .op (by simp)).symm
    have hcycle : (s.echoOffer (echoOf sym)).cycle = (s.letterAppended sym).cycle :=
      (hoffer.2.2 .cycle (by simp)).trans (hframe.2.2 .cycle (by simp)).symm
    rw [s.echoOffer_arbiter_of_taken (u := echoOf sym) rfl hdrops]
    exact State.cutInTest_arbiter_congr hop (congrArg Cycle.lesson hcycle) (hoffer.2.2 .cue (by simp))
      (congrArg Sources.places hsources.symm) h

theorem State.letterPasses_of {s : State} {sym : Nat} (h : s.intake.settings.checkMode = .free ∨
    guidedAccepts s.judge.rule s.target s.intake.attempt sym = true) : s.letterPasses sym = true := by
  unfold State.letterPasses
  split
  · rfl
  · next hmode => exact h.resolve_left (by simp [hmode])

/-- A full Attempt drops the letter, and the first drop of the try is told (02 R24). -/
theorem State.letterTyped_of_full {s : State} (sym : Nat) (h : 24 ≤ s.intake.attempt.length) :
    s.letterTyped sym =
      if s.intake.attemptFull = true then s
      else { s with
        intake := { s.intake with attemptFull := true }, link := s.link.raise (.attemptFull s.cycle.index) } :=
  if_neg (Nat.not_lt.mpr h)

/-- Settles O17: the head's letter is appended, with the echo's test before the timer's; a full Attempt drops it. -/
theorem letterIsTyped : Obligations.LetterIsTyped := by
  refine ⟨fun s e rest h hrole hcheck hroom => ?_, fun s e rest h hrole hcheck hfull => ?_⟩
  · let b := s.popHead.putIntake { s.intake with attempt := s.intake.attempt ++ [e.symbol] }
    have hexec : exec .takeLetter s = .next (b.letterAppended e.symbol) := by
      rw [execTakeLetter_of h hrole, if_pos (State.letterPasses_of hcheck)]
      exact congrArg _ (if_pos hroom)
    have hframe : SameBut [.ring, .intake] s b := s.sameBut_popHead.trans (State.sameBut_putIntake _ _)
    obtain ⟨happended, hintake, hcue, hsources, -, hsettled⟩ := b.letterAppended_spec e.symbol
    have hplace : ∀ src, (b.letterAppended e.symbol).place src = (b.echoOffer (echoOf e.symbol)).place src :=
      fun src => congrArg (fun sources => sources.places.get src) hsources
    have hhold : (s.intake.settings.eachHold || s.intake.letterHold) = s.intake.settings.eachHold := by
      obtain ⟨-, -, -, -, hletter, -, -⟩ := h
      rw [hletter, Bool.or_false]
    refine ⟨_, hexec, (hframe.trans happended).mono (by decide), ?_, ?_, hcue, ?_, fun src hne => ?_, ?_, fun hnone => ?_,
      fun r hr hsnap hsource => ?_, fun r hr hother => ?_, hsettled⟩
    · exact (happended.2.2 .ring (by simp)).trans h.ring_popHead
    · exact hintake.trans (congrArg
        (fun hold => { s.intake with attempt := s.intake.attempt ++ [e.symbol], letterHold := hold }) hhold)
    · exact (congrArg Sources.phrases hsources).trans (b.echoOffer_phrases rfl)
    · exact (hplace src).trans (b.place_echoOffer_ne rfl hne)
    · exact (hplace .echo).trans (b.place_echoOffer_echo rfl)
    · exact State.letterAppended_arbiter_of_not_playing _ (Arbiter.snapped_of_none hnone) fun r hr =>
        absurd (hnone.symm.trans hr) (by simp)
    · have hsnapped := Arbiter.snapped_of_echo hsnap hr hsource
      refine State.letterAppended_arbiter_of_not_playing (s := b) _ hsnapped fun r' hr' => ?_
      rw [← Option.some.inj hr']
      exact RunState.snapped_ne_playing _
    · exact State.letterAppended_arbiter_of_other _ (Arbiter.snapped_of_other hr hother)
  · rw [execTakeLetter_of h hrole, if_pos (State.letterPasses_of hcheck), h.popHead]
    exact congrArg _ (State.letterTyped_of_full e.symbol hfull)

end Sys2Proof.Machine
end

section
/-! PROOFS. Every step keeps the word cycle law (O55). The law reads eight values of the state (`WordView`). Each shared
operation gets one equation that says what it makes of these values, the lemmas of `WordView.Lawful` say which changes of
them are lawful, and each row of the table is a chain of such operations. -/

namespace Sys2Proof.Machine

/-! ### A property that a row keeps -/

/-- The next state, if there is one, has the property. -/
def After (P : State → Prop) (o : Host.Outcome State Fault Refusal) : Prop := ∀ t, o = .next t → P t

section
variable {P : State → Prop} {s : State}

theorem After.next (h : P s) : After P (.next s) := by
  rintro t ⟨⟩
  exact h

/-- An event keeps a property when its change does, where the event occurs. -/
theorem After.occurs (h : P s) {cond : Bool} {f : State → State} (hf : cond = true → P (f s)) :
    After P (s.occurs cond f) := by
  intro t ht
  rcases State.occurs_cases ht with ⟨-, hc, rfl⟩ | ⟨-, rfl⟩
  · exact hf hc
  · exact h

theorem State.takeFrame_keeps (hlink : ∀ (u : State) (l : Link), P u → P (u.putLink l)) (h : P s) {f : HostFrame}
    {t : State} (ht : s.takeFrame f = some t) : P t := by
  obtain ⟨-, ⟨-, rfl⟩ | ⟨rest, -, rfl⟩⟩ := State.takeFrame_cases ht
  · exact h
  · exact hlink _ _ h

/-- A command keeps a property that the Link Port has no part in when its owner does. -/
theorem After.command (hlink : ∀ (u : State) (l : Link), P u → P (u.putLink l)) (h : P s) {k tag : Byte}
    {p : List Byte} {owner : State → Answer} (ho : ∀ u : State, P u → P (owner u).state) :
    After P (s.command k tag p owner) := by
  intro t ht
  rcases State.command_cases ht with ⟨-, rfl⟩ | ⟨u, hu, rfl⟩
  · exact h
  · exact hlink _ _ (ho u (State.takeFrame_keeps hlink h hu))

theorem State.check_keeps (h : P s) {cond : Bool} {r : ResultCode} {k : Answer} (hk : cond = true → P k.state) :
    P (s.check cond r k).state := by
  rcases s.check_cases cond r k with ⟨hc, e⟩ | ⟨-, e⟩ <;> rw [e]
  · exact hk hc
  · exact h

end

/-! ### What the law reads -/

/-- The values that the word cycle law reads. -/
structure WordView where
  op : OpState
  lesson : LessonState
  phase : Phase
  index : Nat
  words : Nat
  working : Bool
  running : Bool
  remaining : Nat

def State.wordView (s : State) : WordView where
  op := s.op
  lesson := s.cycle.lesson
  phase := s.cycle.phase
  index := s.cycle.index
  words := s.cycle.words.length
  working := s.judge.working.isSome
  running := s.cue.running
  remaining := s.cue.remaining

/-- The word cycle law of the values it reads. -/
structure WordView.Lawful (v : WordView) : Prop where
  phase_none : v.phase = .none ↔ v.lesson.current = false
  judging : v.working = true ↔ v.phase = .judging
  word : v.lesson.current = true → v.index < v.words
  idle : v.op ≠ .ready → v.lesson.current = false
  empty : v.op = .setup → v.lesson = .empty
  counts : v.running = true → v.phase = .answering
  stopped : v.running = false → v.remaining = 0

/-- Phase, lesson, Judge and Cue Timer go together. -/
def State.InStep (s : State) : Prop := s.wordView.Lawful

theorem State.inStep_iff (s : State) : s.InStep ↔ WordCycleLaw s :=
  ⟨fun ⟨hphase, hjudge, hword, hidle, hempty, hcounts, hstopped⟩ =>
      ⟨hphase, hjudge, hword, hidle, hempty, hcounts, hstopped⟩,
    fun ⟨hphase, hjudge, hword, hidle, hempty, hcounts, hstopped⟩ =>
      ⟨hphase, hjudge, hword, hidle, hempty, hcounts, hstopped⟩⟩

/-! ### The lawful changes -/

namespace WordView.Lawful

variable {v : WordView}

theorem current (h : v.Lawful) (hphase : v.phase ≠ .none) : v.lesson.current = true := by
  simpa using mt h.phase_none.mpr hphase

theorem ready (h : v.Lawful) (hphase : v.phase ≠ .none) : v.op = .ready := by
  have hcurrent := h.current hphase
  refine Decidable.byContradiction fun hop => ?_
  rw [h.idle hop] at hcurrent
  cases hcurrent

theorem not_working (h : v.Lawful) (hphase : v.phase ≠ .judging) : v.working = false := by
  simpa using mt h.judging.mp hphase

theorem not_running (h : v.Lawful) (hphase : v.phase ≠ .answering) : v.running = false := by
  simpa using mt h.counts hphase

/-- With a word current, the phase and the Judge's work may move together. -/
theorem move (h : v.Lawful) (hphase : v.phase ≠ .none) {p : Phase} {working : Bool} (hp : p ≠ .none)
    (hjudge : working = true ↔ p = .judging) (hrun : v.running = true → p = .answering) :
    ({ v with phase := p, working := working } : WordView).Lawful :=
  { h with phase_none := by simp [hp, h.current hphase], judging := hjudge, counts := hrun }

theorem timer (h : v.Lawful) {running : Bool} {remaining : Nat} (hrun : running = true → v.phase = .answering)
    (hstop : running = false → remaining = 0) :
    ({ v with running := running, remaining := remaining } : WordView).Lawful :=
  { h with counts := hrun, stopped := hstop }

/-- A word of the table begins in READY (03 R52). -/
theorem begin {l : LessonState} {i : Nat} {working : Bool} (hop : v.op = .ready) (hl : l.current = true)
    (hi : i < v.words) (hworking : working = false) :
    ({ v with
      lesson := l, phase := .prompting, index := i, working := working, running := false, remaining := 0 } :
        WordView).Lawful where
  phase_none := by simp [hl]
  judging := by simp [hworking]
  word _ := hi
  idle hno := absurd hop hno
  empty hsetup := by simp [hop] at hsetup
  counts := nofun
  stopped _ := rfl

/-- The lesson is left: no word is current and the Cue Timer is stopped. -/
theorem leave {l : LessonState} {working : Bool} (hop : v.op = .ready) (hl : l.current = false)
    (hworking : working = false) :
    ({ v with lesson := l, phase := .none, working := working, running := false, remaining := 0 } :
      WordView).Lawful where
  phase_none := by simp [hl]
  judging := by simp [hworking]
  word hcurrent := by simp [hl] at hcurrent
  idle _ := hl
  empty hsetup := by simp [hop] at hsetup
  counts := nofun
  stopped _ := rfl

/-- Outside a lesson the word table may change in READY. -/
theorem retable (h : v.Lawful) (hidle : v.lesson.current = false) {l : LessonState} {i n : Nat} (hop : v.op = .ready)
    (hl : l.current = false) : ({ v with lesson := l, index := i, words := n } : WordView).Lawful :=
  { h with
    phase_none := by simp [hl, h.phase_none.mpr hidle]
    word := by simp [hl]
    idle := fun _ => hl
    empty := by simp [hop] }

/-- A lesson under way pauses or goes on. -/
theorem suspend (h : v.Lawful) (hcurrent : v.lesson.current = true) {l : LessonState} (hop : v.op = .ready)
    (hl : l.current = true) : ({ v with lesson := l } : WordView).Lawful :=
  { h with
    phase_none := by simpa [hl, hcurrent] using h.phase_none
    word := fun _ => h.word hcurrent
    idle := by simp [hop]
    empty := by simp [hop] }

/-- READY asks nothing of the lesson. -/
theorem enterReady (h : v.Lawful) : ({ v with op := .ready } : WordView).Lawful :=
  { h with idle := fun hno => absurd rfl hno, empty := nofun }

theorem enterDoze (h : v.Lawful) (hidle : v.lesson.current = false) : ({ v with op := .doze } : WordView).Lawful :=
  { h with idle := fun _ => hidle, empty := nofun }

end WordView.Lawful

/-! ### What the shared operations make of the values -/

@[simp] theorem State.wordView_putLink (s : State) (b : Link) : (s.putLink b).wordView = s.wordView := rfl
@[simp] theorem State.wordView_putCue (s : State) (b : CueTimer) :
    (s.putCue b).wordView = { s.wordView with running := b.running, remaining := b.remaining } := rfl

@[simp] theorem State.wordView_raise (s : State) (n : Notice) : (s.raise n).wordView = s.wordView := rfl
@[simp] theorem State.wordView_putPlace (s : State) (src : Source) (p : Place) :
    (s.putPlace src p).wordView = s.wordView := rfl
@[simp] theorem State.wordView_mapRunning (s : State) (f : Running → Running) :
    (s.mapRunning f).wordView = s.wordView := rfl
@[simp] theorem State.wordView_mapResult (s : State) (i : Nat) (f : ResultRecord → ResultRecord) :
    (s.mapResult i f).wordView = s.wordView := rfl
@[simp] theorem State.wordView_abandonJudging (s : State) :
    s.abandonJudging.wordView = { s.wordView with working := false } := rfl

@[simp] theorem State.wordView_cutInTest (s : State) : s.cutInTest.wordView = s.wordView := by
  rw [s.cutInTest_eq]
  rfl

@[simp] theorem State.wordView_arrive (s : State) (u : Utterance) : (s.arrive u).wordView = s.wordView := by
  simp [State.arrive_eq]

@[simp] theorem State.wordView_cueLoad (s : State) (n : Nat) :
    (s.cueLoad n).wordView = { s.wordView with running := true, remaining := s.cue.reload } := by
  simp [State.cueLoad_eq, CueTimer.loaded]

@[simp] theorem State.wordView_cueStop (s : State) :
    s.cueStop.wordView = { s.wordView with running := false, remaining := 0 } := by
  simp [State.cueStop_eq, CueTimer.stopped]

@[simp] theorem State.wordView_wordBegin (s : State) (i : Nat) : (s.wordBegin i).wordView =
    { s.wordView with phase := .prompting, index := i, running := false, remaining := 0 } := by
  obtain ⟨hcycle, hcue, -, -, -, -, -, -, -, -, -, -, -, hblocks⟩ := s.wordBegin_spec i
  have hop : (s.wordBegin i).op = s.op := hblocks .op (by simp)
  have hjudge : (s.wordBegin i).judge = s.judge := hblocks .judge (by simp)
  simp [State.wordView, hcycle, hcue, hop, hjudge]

@[simp] theorem State.wordView_lessonFinish (s : State) : s.lessonFinish.wordView =
    { s.wordView with lesson := .finished, phase := .none, running := false, remaining := 0 } := by
  obtain ⟨hcycle, hcue, -, -, -, -, -, hblocks⟩ := s.lessonFinish_spec
  have hop : s.lessonFinish.op = s.op := hblocks .op (by simp)
  have hjudge : s.lessonFinish.judge = s.judge := hblocks .judge (by simp)
  simp [State.wordView, hcycle, hcue, hop, hjudge]

@[simp] theorem State.wordView_judgingBegin (s : State) : s.judgingBegin.wordView =
    { s.wordView with phase := .judging, working := true, running := false, remaining := 0 } := by
  simp [State.judgingBegin, State.mapResult, State.wordView, CueTimer.stopped]

@[simp] theorem State.wordView_startLesson (s : State) (i : Nat) : (s.startLesson i).wordView =
    { s.wordView with lesson := .running, phase := .prompting, index := i, running := false, remaining := 0 } :=
  State.wordView_wordBegin _ i

@[simp] theorem State.wordView_gotoWord (s : State) (i : Nat) : (s.gotoWord i).wordView =
    { s.wordView with phase := .prompting, index := i, working := false, running := false, remaining := 0 } := by
  simp [State.gotoWord]

@[simp] theorem State.wordView_stopLesson (s : State) : s.stopLesson.wordView =
    { s.wordView with lesson := .loaded, phase := .none, working := false, running := false, remaining := 0 } := by
  simp [State.stopLesson, State.wordView, State.mapResult, State.abandonJudging, CueTimer.stopped]

/-! ### What the operations of one block make of the values -/

@[simp] theorem State.wordView_offer (s : State) (e : KeyEvent) : (s.offer e).wordView = s.wordView := by
  unfold State.offer
  split
  · rfl
  · split <;> rfl

@[simp] theorem State.wordView_hearRequest (s : State) : s.hearRequest.wordView = s.wordView := by
  unfold State.hearRequest
  split
  · simp
  · rfl

@[simp] theorem State.wordView_hint (s : State) : s.hint.wordView = s.wordView := by
  unfold State.hint
  split
  · split <;> simp
  · rfl

@[simp] theorem State.wordView_guidedRefusal (s : State) : s.guidedRefusal.wordView = s.wordView := by
  rw [State.guidedRefusal_eq]
  split
  · exact State.wordView_arrive _ _
  · rfl

@[simp] theorem State.wordView_echoOffer (s : State) (u : Utterance) : (s.echoOffer u).wordView = s.wordView := by
  unfold State.echoOffer
  split
  · split
    · simp
    · rfl
  · simp
  · simp

@[simp] theorem State.wordView_rubout (s : State) : s.rubout.wordView = s.wordView := by
  unfold State.rubout
  split <;> rfl

@[simp] theorem State.wordView_judged (s : State) (v : Judgement) :
    (s.judged v).wordView = { s.wordView with phase := .feedback } := by
  unfold State.judged
  extract_lets triesLeft a b c
  have hb : b.wordView = s.wordView := by
    unfold b
    split <;> rfl
  have hc : c.wordView = s.wordView := (b.wordView_arrive _).trans hb
  exact congrArg (fun w : WordView => { w with phase := .feedback }) hc

@[simp] theorem State.wordView_offerFrame (s : State) (f : HostFrame) : (s.offerFrame f).wordView = s.wordView := by
  unfold State.offerFrame
  split
  · rfl
  · split <;> rfl

@[simp] theorem State.wordView_receive (s : State) (b : Byte) : (s.receive b).wordView = s.wordView := by
  unfold State.receive
  dsimp only
  split <;> simp

@[simp] theorem State.wordView_transmitted (s : State) (f : OutFrame) : (s.transmitted f).wordView = s.wordView := by
  unfold State.transmitted
  split <;> rfl

@[simp] theorem State.wordView_reach (s : State) (index : Nat) (previous : Option ItemClass) (items : List Item) :
    (s.reach index previous items).1.wordView = s.wordView := by
  obtain ⟨spi, link, e, -⟩ := State.reach_eq index previous items s
  rw [e]
  rfl

@[simp] theorem State.wordView_giveSample (s : State) (r : Running) : (s.giveSample r).wordView = s.wordView := by
  unfold State.giveSample
  split <;> split <;> rfl

@[simp] theorem State.wordView_flushHost (s : State) : s.flushHost.wordView = s.wordView := by
  have hreports : ∀ (us : List Utterance) (t : State), (us.foldl State.reportFlushed t).wordView = t.wordView := by
    intro us
    induction us with
    | nil => exact fun _ => rfl
    | cons u rest ih =>
      refine fun t => (ih _).trans ?_
      unfold State.reportFlushed
      split <;> rfl
  exact hreports _ _

@[simp] theorem State.wordView_placeCue (s : State) : s.placeCue.wordView = s.wordView := by
  unfold State.placeCue
  split
  · exact s.wordView_arrive _
  · rfl

theorem State.not_current_of_lessonIdle {s : State} (h : s.lessonIdle = true) : s.cycle.lesson.current = false :=
  (Bool.not_eq_true' _).mp h

/-! ### The shared operations keep the law -/

namespace State.InStep

variable {s t : State}

theorem of_view {v : WordView} (e : t.wordView = v) (h : v.Lawful) : t.InStep := by
  rw [State.InStep, e]
  exact h

/-- An operation that leaves the eight values. -/
theorem same (h : s.InStep) (e : t.wordView = s.wordView) : t.InStep := of_view e h

theorem putLink (h : s.InStep) (l : Link) : (s.putLink l).InStep := h

theorem cueLoad (h : s.InStep) (hphase : s.cycle.phase = .answering) (n : Nat) : (s.cueLoad n).InStep :=
  of_view (s.wordView_cueLoad n) (h.timer (fun _ => hphase) nofun)

theorem cueStop (h : s.InStep) : s.cueStop.InStep := of_view s.wordView_cueStop (h.timer nofun fun _ => rfl)

/-- With no judging in flight a current word's phase moves to one in which the Judge is idle. -/
theorem enterPhase (h : s.InStep) {p : Phase} (hnone : s.cycle.phase ≠ .none) (hjudging : s.cycle.phase ≠ .judging)
    (hp : p ≠ .none) (hp' : p ≠ .judging) (hrun : s.cycle.phase ≠ .answering ∨ p = .answering) :
    (s.putCycle { s.cycle with phase := p }).InStep := by
  have hworking : s.judge.working.isSome = false := h.not_working hjudging
  refine h.move hnone hp (by simp [hp', hworking]) fun hrunning => hrun.resolve_left fun hne => ?_
  simp [h.not_running hne] at hrunning

/-- The word is asked for: phase ANSWERING, with the Cue Timer loaded (03 R53, R57). -/
theorem answer (h : s.InStep) (hnone : s.cycle.phase ≠ .none) (hjudging : s.cycle.phase ≠ .judging) :
    ((s.putCycle { s.cycle with phase := .answering }).cueLoad 0).InStep :=
  (h.enterPhase hnone hjudging (by simp) (by simp) (.inr rfl)).cueLoad rfl 0

theorem advance (h : s.InStep) (hnone : s.cycle.phase ≠ .none) (hjudging : s.cycle.phase ≠ .judging) :
    s.advance.InStep := by
  have hworking := h.not_working hjudging
  have hready := h.ready hnone
  unfold State.advance
  split
  · next hi => exact of_view (s.wordView_wordBegin _) (.begin hready (h.current hnone) hi hworking)
  · exact of_view s.wordView_lessonFinish (.leave hready rfl hworking)

theorem promptStarted (h : s.InStep) : s.promptStarted.InStep := by
  unfold State.promptStarted
  split
  · next hphase => exact h.answer (by simp [hphase]) (by simp [hphase])
  · exact h

theorem feedbackEnded (h : s.InStep) (hphase : s.cycle.phase = .feedback) : s.feedbackEnded.InStep := by
  have hnone : s.cycle.phase ≠ .none := by simp [hphase]
  have hjudging : s.cycle.phase ≠ .judging := by simp [hphase]
  have hheld : (if s.intake.settings.endHold then s.putCycle { s.cycle with phase := .held } else s.advance).InStep := by
    split
    · exact h.enterPhase hnone hjudging (by simp) (by simp) (.inl (by simp [hphase]))
    · exact h.advance hnone hjudging
  unfold State.feedbackEnded
  cases s.currentResult.state with
  | opened => exact h.answer hnone hjudging
  | exact => exact hheld
  | missed => exact hheld
  | unseen => exact h
  | skipped => exact h

theorem endRunning (h : s.InStep) (u : Utterance) (e : EndKind) : (s.endRunning u e).InStep := by
  have hvacated : s.vacate.InStep := h
  unfold State.endRunning State.reportEnd State.lessonEndReport
  split
  · split
    · next hfeedback => exact hvacated.feedbackEnded hfeedback.1
    · exact hvacated
  · split
    · exact hvacated
    · exact hvacated

theorem judgingBegin (h : s.InStep) (hphase : s.cycle.phase = .answering) : s.judgingBegin.InStep := by
  have hnone : s.wordView.phase ≠ .none := by simp [State.wordView, hphase]
  have hstopped := h.timer (running := false) (remaining := 0) nofun fun _ => rfl
  exact of_view s.wordView_judgingBegin (hstopped.move hnone (by simp) (by simp) nofun)

theorem clearRuntime (s : State) (op : OpState) : (s.clearRuntime.putOp op).InStep where
  phase_none := by simp [State.wordView, State.clearRuntime, Cycle.pinReset, LessonState.current]
  judging := by simp [State.wordView, State.clearRuntime, Cycle.pinReset]
  word := nofun
  idle _ := rfl
  empty _ := rfl
  counts := nofun
  stopped _ := rfl

theorem pinReset (s : State) : s.pinReset.InStep := by
  show State.reset.InStep
  rw [State.inStep_iff]
  decide

/-! ### Commands -/

theorem takeFrame (h : s.InStep) {f : HostFrame} (ht : s.takeFrame f = some t) : t.InStep :=
  State.takeFrame_keeps (fun _ l hu => hu.putLink l) h ht

/-- A command keeps the law when its owner does. -/
theorem command (h : s.InStep) {k tag : Byte} {p : List Byte} {owner : State → Answer}
    (ho : ∀ u : State, u.InStep → (owner u).state.InStep) : After State.InStep (s.command k tag p owner) :=
  After.command (fun _ l hu => hu.putLink l) h ho

theorem check (h : s.InStep) {cond : Bool} {r : ResultCode} {k : Answer} (hk : cond = true → k.state.InStep) :
    (s.check cond r k).state.InStep :=
  State.check_keeps h hk

theorem lessonSetting (h : s.InStep) {sizeOk valuesOk : Bool} {k : Answer} (hk : k.state.wordView = s.wordView) :
    (s.lessonSetting sizeOk valuesOk k).state.InStep :=
  h.check fun _ => h.check fun _ => h.check fun _ => h.check fun _ => h.same hk

theorem readyBare (h : s.InStep) {p : List Byte} {k : Answer} (hk : s.op = .ready → k.state.InStep) :
    (s.readyBare p k).state.InStep :=
  h.check fun hop => h.check fun _ => hk (of_decide_eq_true hop)

theorem lessonCommand (h : s.InStep) {p : List Byte} {n : Nat} {lessonOk : Bool} {k : Answer}
    (hk : s.op = .ready → lessonOk = true → k.state.InStep) : (s.lessonCommand p n lessonOk k).state.InStep :=
  h.check fun hop => h.check fun _ => h.check fun hlesson => hk (of_decide_eq_true hop) hlesson

theorem sayChecks (h : s.InStep) {p : List Byte} {room : Bool} {r : ResultCode} {k : Answer}
    (hk : k.state.wordView = s.wordView) : (s.sayChecks p room r k).state.InStep :=
  h.check fun _ => h.check fun _ => h.check fun _ => h.check fun _ => h.same hk

theorem releaseCommand (h : s.InStep) {target : Nat} {tag : Byte} {p : List Byte} {owner : State → Answer}
    (ho : ∀ u : State, u.InStep → (owner u).state.InStep) :
    After State.InStep (s.releaseCommand target tag p owner) := by
  unfold State.releaseCommand
  split
  · exact h.command fun u hu => hu.check fun _ => hu.check fun _ => hu.check fun _ => ho u hu
  · exact .next h

/-- An event keeps the law when its change does. -/
theorem occurs (h : s.InStep) {cond : Bool} {f : State → State} (hf : cond = true → (f s).InStep) :
    After State.InStep (s.occurs cond f) :=
  After.occurs h hf

/-! ### Operating State Control (10) -/

theorem resetCommand (s : State) : s.resetCommand.InStep := clearRuntime s .setup

theorem execResetnRelease (h : s.InStep) : After State.InStep (execResetnRelease s) := by
  unfold Machine.execResetnRelease
  split
  · exact .next (same (s := s.pinReset) (pinReset s) rfl)
  · exact .next h

theorem execReset (h : s.InStep) (tag : Byte) (p : List Byte) : After State.InStep (execReset tag p s) := by
  unfold Machine.execReset
  split
  · exact .next h
  · next t ht =>
    split
    · exact .next (resetCommand _)
    · exact .next ((h.takeFrame ht).putLink _)

theorem execBegin (h : s.InStep) (tag : Byte) (p : List Byte) : After State.InStep (execBegin tag p s) := by
  unfold Machine.execBegin
  split
  · exact .next h
  · next t ht =>
    have hu := h.takeFrame ht
    split
    · exact .next (hu.putLink _)
    · split
      · exact .next (hu.putLink _)
      · exact .next (hu.putLink _)

theorem execBankCheckComplete (h : s.InStep) : After State.InStep (execBankCheckComplete s) := by
  refine h.occurs fun _ => ?_
  dsimp only
  split
  · exact h.same rfl
  · exact of_view rfl h.enterReady

theorem dozeOff (h : s.InStep) (hidle : s.cycle.lesson.current = false) : s.dozeOff.InStep := by
  unfold State.dozeOff
  dsimp only
  split
  · exact of_view rfl (h.enterDoze hidle)
  · exact of_view rfl h.enterReady

theorem execDoze (h : s.InStep) (tag : Byte) (p : List Byte) : After State.InStep (execDoze tag p s) := by
  unfold Machine.execDoze
  split
  · exact .next h
  · next t ht =>
    have hu := h.takeFrame ht
    split
    · exact .next (hu.putLink _)
    · split
      · exact .next (hu.putLink _)
      · split
        · next hdoze =>
          have hidle : t.cycle.lesson.current = false := by
            simp only [State.mayDoze, Bool.and_eq_true] at hdoze
            obtain ⟨⟨⟨⟨hidle, -⟩, -⟩, -⟩, -⟩ := hdoze
            exact State.not_current_of_lessonIdle hidle
          exact .next (dozeOff (hu.putLink _) hidle)
        · exact .next (hu.putLink _)

theorem execWake (h : s.InStep) (tag : Byte) (p : List Byte) : After State.InStep (execWake tag p s) :=
  h.command fun _ hu => hu.check fun _ => hu.check fun _ => of_view rfl hu.enterReady

theorem execStatus (h : s.InStep) (tag : Byte) (p : List Byte) : After State.InStep (execStatus tag p s) :=
  h.command fun _ hu => hu.check fun _ => hu

/-! ### Keys and their ring (01) -/

theorem execScan (h : s.InStep) (raw : BitVec 64) : After State.InStep (execScan raw s) := h.occurs fun _ => h

theorem execPressIntervalComplete (h : s.InStep) (p : Nat) : After State.InStep (execPressIntervalComplete p s) := by
  refine h.occurs fun _ => ?_
  dsimp only
  split
  · exact h.same (State.wordView_offer _ _)
  · exact h

theorem execReleaseIntervalComplete (h : s.InStep) (p : Nat) :
    After State.InStep (execReleaseIntervalComplete p s) := by
  refine h.occurs fun _ => ?_
  dsimp only
  split
  · exact h.same (State.wordView_offer _ _)
  · exact h

theorem execWakingPress (h : s.InStep) : After State.InStep (execWakingPress s) :=
  h.occurs fun _ => of_view rfl h.enterReady

theorem execSetKeys (h : s.InStep) (tag : Byte) (p : List Byte) : After State.InStep (execSetKeys tag p s) :=
  h.command fun _ hu => hu.check fun _ => hu.check fun _ => hu.check fun _ => hu.same rfl

/-! ### The Key Intake (02) -/

theorem execTakePass (h : s.InStep) : After State.InStep (execTakePass s) := by
  refine h.occurs fun _ => ?_
  split
  · exact h
  · dsimp only
    split
    · exact h
    · exact h

theorem execDiscardHead (h : s.InStep) : After State.InStep (execDiscardHead s) := h.occurs fun _ => h

/-- A head is acted on in phase ANSWERING alone (02 R19, R22). -/
theorem phase_of_actsOn {r : Role} (hc : s.actsOn r = true) : s.cycle.phase = .answering := by
  simp only [State.actsOn, Bool.and_eq_true, decide_eq_true_eq] at hc
  obtain ⟨-, htaking⟩ := hc
  obtain ⟨-, -, htable, -⟩ := s.intakeState_iff
  obtain ⟨-, -, -, hphase⟩ := htable.mp htaking
  exact hphase

theorem letterAppended (h : s.InStep) (hphase : s.cycle.phase = .answering) (sym : Nat) :
    (s.letterAppended sym).InStep := by
  have hview := s.wordView_echoOffer (compose .echo .echo [.letter sym])
  have hloaded := (h.same hview).cueLoad ((congrArg WordView.phase hview).trans hphase) 0
  unfold State.letterAppended
  dsimp only
  split
  · exact hloaded
  · exact hloaded

theorem letterTyped (h : s.InStep) (hphase : s.cycle.phase = .answering) (sym : Nat) : (s.letterTyped sym).InStep := by
  unfold State.letterTyped
  split
  · refine letterAppended ?_ ?_ sym
    · exact h
    · exact hphase
  · split
    · exact h
    · exact h

theorem execTakeLetter (h : s.InStep) : After State.InStep (execTakeLetter s) := by
  refine h.occurs fun hc => ?_
  split
  · exact h
  · dsimp only
    split
    · exact letterTyped (s := s.popHead) h (phase_of_actsOn (s := s) hc) _
    · exact h.same (State.wordView_guidedRefusal _)

theorem execTakeRubout (h : s.InStep) : After State.InStep (execTakeRubout s) := by
  refine h.occurs fun hc => ?_
  have hview := s.popHead.wordView_rubout
  have hphase : s.popHead.rubout.cycle.phase = .answering :=
    (congrArg WordView.phase hview).trans (phase_of_actsOn (s := s) hc)
  exact (h.same hview).cueLoad hphase _

theorem submit (h : s.InStep) (hphase : s.cycle.phase = .answering) : s.submit.InStep := by
  unfold State.submit
  split
  · exact h.same s.wordView_hearRequest
  · exact h.judgingBegin hphase

theorem execTakeGo (h : s.InStep) : After State.InStep (execTakeGo s) :=
  h.occurs fun hc => submit (s := s.popHead) h (phase_of_actsOn (s := s) hc)

theorem execTakeSpace (h : s.InStep) : After State.InStep (execTakeSpace s) := by
  refine h.occurs fun hc => ?_
  split
  · exact submit (s := s.popHead) h (phase_of_actsOn (s := s) hc)
  · exact h

theorem execTakeHear (h : s.InStep) : After State.InStep (execTakeHear s) :=
  h.occurs fun _ => h.same (State.wordView_hearRequest _)

theorem execTakeHint (h : s.InStep) : After State.InStep (execTakeHint s) :=
  h.occurs fun _ => h.same (State.wordView_hint _)

theorem execSetIntake (h : s.InStep) (tag : Byte) (p : List Byte) : After State.InStep (execSetIntake tag p s) :=
  h.command fun _ hu => hu.lessonSetting rfl

theorem execReleaseLetter (h : s.InStep) (tag : Byte) (p : List Byte) : After State.InStep (execReleaseLetter tag p s) :=
  h.releaseCommand fun _ hu => hu.check fun _ => hu.same rfl

theorem execReleasePass (h : s.InStep) (tag : Byte) (p : List Byte) : After State.InStep (execReleasePass tag p s) :=
  h.releaseCommand fun _ hu => hu.check fun _ => hu.same rfl

theorem execReleaseWord (h : s.InStep) (tag : Byte) (p : List Byte) : After State.InStep (execReleaseWord tag p s) := by
  refine h.releaseCommand fun u hu => hu.check fun hc => ?_
  have hheld : u.cycle.phase = .held := of_decide_eq_true hc
  exact hu.advance (by simp [hheld]) (by simp [hheld])

/-! ### The Judge (04) -/

theorem execJudgingComplete (h : s.InStep) : After State.InStep (execJudgingComplete s) := by
  refine h.occurs fun hc => ?_
  split
  · exact h
  · next r _ =>
    have hphase : s.wordView.phase = .judging := h.judging.mp hc
    have hrunning := h.not_running (by simp [hphase])
    exact of_view (State.wordView_judged _ _)
      (h.move (by simp [hphase]) (by simp) (working := false) (by simp) (by simp [hrunning]))

theorem execSetPairs (h : s.InStep) (tag : Byte) (p : List Byte) : After State.InStep (execSetPairs tag p s) :=
  h.command fun _ hu => hu.lessonSetting rfl

theorem execSetJudge (h : s.InStep) (tag : Byte) (p : List Byte) : After State.InStep (execSetJudge tag p s) :=
  h.command fun _ hu => hu.lessonSetting rfl

theorem execSetWindow (h : s.InStep) (tag : Byte) (p : List Byte) : After State.InStep (execSetWindow tag p s) :=
  h.command fun _ hu => hu.check fun _ => hu.check fun _ => hu.check fun _ => hu.same rfl

theorem execGetTally (h : s.InStep) (tag : Byte) (p : List Byte) : After State.InStep (execGetTally tag p s) :=
  h.command fun _ hu => hu.readyBare fun _ => hu

/-! ### Words and the lesson (03) -/

theorem execLoadWords (h : s.InStep) (tag : Byte) (p : List Byte) : After State.InStep (execLoadWords tag p s) := by
  refine h.command fun u hu => hu.check fun hop => hu.check fun _ => hu.check fun hidle => hu.check fun _ =>
    hu.check fun _ => ?_
  exact of_view rfl (hu.retable (State.not_current_of_lessonIdle hidle) (of_decide_eq_true hop) rfl)

theorem execClearWords (h : s.InStep) (tag : Byte) (p : List Byte) : After State.InStep (execClearWords tag p s) :=
  h.command fun _ hu => hu.readyBare fun hop => hu.check fun hidle =>
    of_view rfl (hu.retable (State.not_current_of_lessonIdle hidle) hop rfl)

theorem execStart (h : s.InStep) (tag : Byte) (p : List Byte) : After State.InStep (execStart tag p s) := by
  refine h.command fun u hu => hu.lessonCommand fun hop hlesson => hu.check fun hindex => ?_
  have hphase : u.cycle.phase = .none := by
    refine hu.phase_none.mpr ?_
    rcases of_decide_eq_true hlesson with e | e <;> simp [State.wordView, e, LessonState.current]
  have hworking : u.judge.working.isSome = false := hu.not_working (by simp [State.wordView, hphase])
  exact of_view (u.wordView_startLesson _) (.begin hop rfl (of_decide_eq_true hindex) hworking)

theorem execPause (h : s.InStep) (tag : Byte) (p : List Byte) : After State.InStep (execPause tag p s) := by
  refine h.command fun u hu => hu.lessonCommand fun hop hlesson => ?_
  have hrunning : u.wordView.lesson = .running := of_decide_eq_true hlesson
  exact of_view rfl (hu.suspend (by simp [hrunning, LessonState.current]) hop rfl)

theorem execResume (h : s.InStep) (tag : Byte) (p : List Byte) : After State.InStep (execResume tag p s) := by
  refine h.command fun u hu => hu.lessonCommand fun hop hlesson => ?_
  have hpaused : u.wordView.lesson = .paused := of_decide_eq_true hlesson
  exact of_view (State.wordView_cutInTest _) (hu.suspend (by simp [hpaused, LessonState.current]) hop rfl)

theorem execStop (h : s.InStep) (tag : Byte) (p : List Byte) : After State.InStep (execStop tag p s) := by
  refine h.command fun u hu => hu.lessonCommand fun hop _ => ?_
  exact of_view u.wordView_stopLesson (.leave hop rfl rfl)

theorem execGoto (h : s.InStep) (tag : Byte) (p : List Byte) : After State.InStep (execGoto tag p s) := by
  refine h.command fun u hu => hu.lessonCommand fun hop hlesson => hu.check fun hindex => ?_
  exact of_view (u.wordView_gotoWord _) (.begin hop hlesson (of_decide_eq_true hindex) rfl)

theorem execGetResults (h : s.InStep) (tag : Byte) (p : List Byte) : After State.InStep (execGetResults tag p s) :=
  h.command fun _ hu => hu.check fun _ => hu.check fun _ => hu.check fun _ => hu

theorem execGetAttempt (h : s.InStep) (tag : Byte) (p : List Byte) : After State.InStep (execGetAttempt tag p s) :=
  h.command fun _ hu => hu.readyBare fun _ => hu

/-! ### The Link Port (09) -/

theorem execReceivedByte (h : s.InStep) (b : Byte) : After State.InStep (execReceivedByte b s) :=
  h.occurs fun _ => h.same (s.wordView_receive b)

theorem execFrameReceived (h : s.InStep) (b : Byte) : After State.InStep (execFrameReceived b s) :=
  h.occurs fun _ => h.same (s.wordView_receive b)

theorem execInterByteTimeout (h : s.InStep) : After State.InStep (execInterByteTimeout s) := h.occurs fun _ => h

theorem execTransmitBegin (h : s.InStep) : After State.InStep (execTransmitBegin s) := h.occurs fun _ => h

theorem execTransmitComplete (h : s.InStep) : After State.InStep (execTransmitComplete s) := by
  refine h.occurs fun _ => ?_
  split
  · exact h
  · exact h.same (s.wordView_transmitted _)

theorem execUnknownCommand (h : s.InStep) (k tag : Byte) (p : List Byte) :
    After State.InStep (execUnknownCommand k tag p s) := by
  unfold Machine.execUnknownCommand
  split
  · exact .next h
  · exact h.command fun _ hu => hu

/-! ### Speech (05, 06, 08) -/

theorem playFrom (h : s.InStep) (u : Utterance) (index : Nat) (previous : Option ItemClass) :
    (s.playFrom u index previous).InStep := by
  have hreach := h.same (s.wordView_reach index previous (u.items.drop index))
  unfold State.playFrom
  split
  · next t c e => rw [e] at hreach; exact hreach
  · next t e => rw [e] at hreach; exact hreach.endRunning u .done

theorem startReports (h : s.InStep) (u : Utterance) (fromPending : Bool) : (s.startReports u fromPending).InStep := by
  unfold State.startReports
  extract_lets a
  have ha : a.InStep := by
    unfold a
    split
    · exact h.promptStarted
    · exact h
  split
  · exact ha
  · exact ha

theorem startFrom (h : s.InStep) (src : Source) : (s.startFrom src).InStep := by
  unfold State.startFrom
  split
  · exact h
  · next u fromPending rest _ =>
    have hentered : ((s.putPlace src rest).enterRunning u).InStep := h
    exact ((hentered.startReports u fromPending).playFrom u u.resume none).same (State.wordView_cutInTest _)

theorem execUtteranceStart (h : s.InStep) : After State.InStep (execUtteranceStart s) := by
  refine h.occurs fun _ => ?_
  split
  · exact h
  · exact h.startFrom _

theorem execStageEnd (h : s.InStep) : After State.InStep (execStageEnd s) := by
  refine h.occurs fun _ => ?_
  split
  · exact h
  · unfold State.nextStage
    split
    · split
      · exact h
      · exact h.playFrom _ _ _
    · exact h.playFrom _ _ _
    · exact h.playFrom _ _ _

theorem fadeOver (h : s.InStep) (u : Utterance) (k : FadeKind) : (s.fadeOver u k).InStep := by
  cases k with
  | restore => exact h
  | discardCut => exact h.endRunning u .cut
  | discardStopped => exact h.endRunning u .stopped

theorem execFadeEnd (h : s.InStep) : After State.InStep (execFadeEnd s) := by
  refine h.occurs fun _ => ?_
  split
  · exact h
  · split
    · exact h
    · exact h.fadeOver _ _

theorem execSamplePeriod (h : s.InStep) : After State.InStep (execSamplePeriod s) := by
  refine h.occurs fun _ => ?_
  split
  · exact h
  · exact h.same (s.wordView_giveSample _)

theorem execAmpHoldEnd (h : s.InStep) : After State.InStep (execAmpHoldEnd s) := h.occurs fun _ => h

theorem execSay (h : s.InStep) (tag : Byte) (p : List Byte) : After State.InStep (execSay tag p s) :=
  h.command fun u hu => hu.sayChecks (u.wordView_arrive _)

theorem execSayNow (h : s.InStep) (tag : Byte) (p : List Byte) : After State.InStep (execSayNow tag p s) :=
  h.command fun u hu => hu.sayChecks (u.wordView_arrive _)

theorem execCut (h : s.InStep) (tag : Byte) (p : List Byte) : After State.InStep (execCut tag p s) :=
  h.command fun _ hu => hu.readyBare fun _ => hu.same rfl

theorem execFlush (h : s.InStep) (tag : Byte) (p : List Byte) : After State.InStep (execFlush tag p s) :=
  h.command fun u hu => hu.readyBare fun _ => hu.same u.wordView_flushHost

theorem execSetPhrases (h : s.InStep) (tag : Byte) (p : List Byte) : After State.InStep (execSetPhrases tag p s) :=
  h.command fun _ hu => hu.check fun _ => hu.same rfl

theorem execSetSources (h : s.InStep) (tag : Byte) (p : List Byte) : After State.InStep (execSetSources tag p s) :=
  h.command fun _ hu => hu.lessonSetting (State.wordView_cutInTest _)

theorem execSetVoice (h : s.InStep) (tag : Byte) (p : List Byte) : After State.InStep (execSetVoice tag p s) :=
  h.command fun _ hu => hu.check fun _ => hu.check fun _ => hu.same rfl

theorem execSetLetters (h : s.InStep) (tag : Byte) (p : List Byte) : After State.InStep (execSetLetters tag p s) :=
  h.command fun _ hu => hu.lessonSetting rfl

/-! ### The Cue Timer (07) -/

/-- A COUNTING timer runs, and in phase ANSWERING (07 R124). -/
theorem counting_imp (hc : s.timerState = .counting) : s.cue.running = true ∧ s.cycle.phase = .answering := by
  unfold State.timerState at hc
  split at hc
  · next hrunning =>
    split at hc
    · next hcounts => exact ⟨hrunning, hcounts.2.1⟩
    · cases hc
  · cases hc

theorem execCueDecrement (h : s.InStep) : After State.InStep (execCueDecrement s) := by
  refine h.occurs fun hc => ?_
  simp only [Bool.and_eq_true, decide_eq_true_eq] at hc
  obtain ⟨hrunning, hphase⟩ := counting_imp hc.1
  refine of_view rfl (h.timer (fun _ => hphase) fun hstopped => ?_)
  exact absurd (hrunning.symm.trans hstopped) (by simp)

theorem expire (h : s.InStep) (hphase : s.cycle.phase = .answering) : s.expire.InStep := by
  unfold State.expire
  split
  · exact (h.same s.wordView_placeCue).cueLoad ((congrArg WordView.phase s.wordView_placeCue).trans hphase) _
  · exact cueStop (s := s.raise _) h

theorem execCueExpiry (h : s.InStep) : After State.InStep (execCueExpiry s) := by
  refine h.occurs fun hc => ?_
  simp only [Bool.and_eq_true, decide_eq_true_eq] at hc
  exact h.expire (counting_imp hc.1).2

theorem execSetCue (h : s.InStep) (tag : Byte) (p : List Byte) : After State.InStep (execSetCue tag p s) :=
  h.command fun _ hu => hu.lessonSetting rfl

/-! ### Every row and every step -/

theorem exec (h : s.InStep) (c : Instr) : After State.InStep (exec c s) := by
  cases c with
  | pinReset => exact .next (pinReset s)
  | resetnRelease => exact h.execResetnRelease
  | scan raw => exact h.execScan raw
  | pressIntervalComplete position => exact h.execPressIntervalComplete position
  | releaseIntervalComplete position => exact h.execReleaseIntervalComplete position
  | wakingPress => exact h.execWakingPress
  | takePass => exact h.execTakePass
  | discardHead => exact h.execDiscardHead
  | takeLetter => exact h.execTakeLetter
  | takeRubout => exact h.execTakeRubout
  | takeGo => exact h.execTakeGo
  | takeSpace => exact h.execTakeSpace
  | takeHear => exact h.execTakeHear
  | takeHint => exact h.execTakeHint
  | judgingComplete => exact h.execJudgingComplete
  | utteranceStart => exact h.execUtteranceStart
  | stageEnd => exact h.execStageEnd
  | fadeEnd => exact h.execFadeEnd
  | cueDecrement => exact h.execCueDecrement
  | cueExpiry => exact h.execCueExpiry
  | ampHoldEnd => exact h.execAmpHoldEnd
  | frameReceived byte => exact h.execFrameReceived byte
  | interByteTimeout => exact h.execInterByteTimeout
  | transmitBegin => exact h.execTransmitBegin
  | transmitComplete => exact h.execTransmitComplete
  | unknownCommand kind tag payload => exact h.execUnknownCommand kind tag payload
  | status tag payload => exact h.execStatus tag payload
  | begin tag payload => exact h.execBegin tag payload
  | bankCheckComplete => exact h.execBankCheckComplete
  | reset tag payload => exact h.execReset tag payload
  | doze tag payload => exact h.execDoze tag payload
  | wake tag payload => exact h.execWake tag payload
  | setKeys tag payload => exact h.execSetKeys tag payload
  | setIntake tag payload => exact h.execSetIntake tag payload
  | setLetters tag payload => exact h.execSetLetters tag payload
  | setPhrases tag payload => exact h.execSetPhrases tag payload
  | setPairs tag payload => exact h.execSetPairs tag payload
  | setSources tag payload => exact h.execSetSources tag payload
  | setCue tag payload => exact h.execSetCue tag payload
  | setJudge tag payload => exact h.execSetJudge tag payload
  | setVoice tag payload => exact h.execSetVoice tag payload
  | loadWords tag payload => exact h.execLoadWords tag payload
  | clearWords tag payload => exact h.execClearWords tag payload
  | start tag payload => exact h.execStart tag payload
  | pause tag payload => exact h.execPause tag payload
  | resume tag payload => exact h.execResume tag payload
  | stop tag payload => exact h.execStop tag payload
  | goto tag payload => exact h.execGoto tag payload
  | releaseLetter tag payload => exact h.execReleaseLetter tag payload
  | releasePass tag payload => exact h.execReleasePass tag payload
  | releaseWord tag payload => exact h.execReleaseWord tag payload
  | getAttempt tag payload => exact h.execGetAttempt tag payload
  | getResults tag payload => exact h.execGetResults tag payload
  | setWindow tag payload => exact h.execSetWindow tag payload
  | getTally tag payload => exact h.execGetTally tag payload
  | say tag payload => exact h.execSay tag payload
  | sayNow tag payload => exact h.execSayNow tag payload
  | cut tag payload => exact h.execCut tag payload
  | flush tag payload => exact h.execFlush tag payload
  | receivedByte byte => exact h.execReceivedByte byte
  | samplePeriod => exact h.execSamplePeriod

theorem passTime (h : s.InStep) : s.passTime.InStep := by
  unfold State.passTime
  split
  · exact h
  · dsimp only
    split
    · exact h
    · exact h

theorem step (h : s.InStep) : After State.InStep (step s) := by
  unfold Machine.step
  split
  · exact .next h.passTime
  · next c rest _ =>
    have hrest : ({ s with pending := rest } : State).InStep := h
    exact hrest.exec c

end State.InStep

/-- Settles O55: every row keeps phase, lesson, Judge and Cue Timer in step. -/
theorem stepKeepsWordCycleLaw : Obligations.StepKeepsWordCycleLaw := by
  intro s t hlaw hstep
  exact t.inStep_iff.mp ((s.inStep_iff.mpr hlaw).step t hstep)

end Sys2Proof.Machine
end

section
/-! PROOFS. The lesson commands (03 R45 to R51) and RELEASE WORD (03 R58): their refusals (O32), START and GOTO (O31),
PAUSE, RESUME and STOP (O33), and the advance from phase HELD (O34). -/

namespace Sys2Proof.Machine

/-! ### The checks of the lesson commands (03 R45) -/

/-- The first of the checks of 03 R45 that fails, in their order; `hasIndex` for a command that carries a word index. -/
def State.lessonRefusal (s : State) (p : List Byte) (size : Nat) (inLesson : Prop) [Decidable inLesson]
    (hasIndex : Bool) : Option ResultCode :=
  if s.op ≠ .ready then some .state
  else if p.length ≠ size then some .length
  else if ¬inLesson then some .state
  else if hasIndex = true ∧ s.cycle.words.length ≤ field p 0 then some .range
  else none

/-- A lesson command answers with the first of its checks that fails. -/
theorem lessonCommand_refused {s u : State} {kind tag : Byte} {p : List Byte} {size : Nat} {inLesson : Prop}
    [Decidable inLesson] {lessonOk : State → Bool} {hasIndex : Bool} {r : ResultCode} (k : State → Answer)
    (hkind : knownKind kind = true) (hlesson : lessonOk u = true ↔ inLesson) (h : Takes s ⟨kind, tag, p⟩ u)
    (hr : s.lessonRefusal p size inLesson hasIndex = some r) :
    (s.command kind tag p fun s => s.lessonCommand p size (lessonOk s)
      (s.check (!hasIndex || s.indexOk (field p 0)) .range (k s))) = .next (u.replied (kind + 0x80) tag r []) := by
  have hreply : replyKind kind = kind + 0x80 := if_pos hkind
  rw [State.command_of_takes _ h, hreply, State.lessonCommand, State.indexOk, h.op, h.cycle]
  unfold State.lessonRefusal at hr
  split at hr
  · next hop =>
    cases hr
    simp [hop]
  · next hop =>
    rw [ne_eq, Decidable.not_not] at hop
    split at hr
    · next hsize =>
      cases hr
      simp [hop, hsize]
    · next hsize =>
      rw [ne_eq, Decidable.not_not] at hsize
      split at hr
      · next hno =>
        cases hr
        have hfalse : lessonOk u = false := Bool.eq_false_iff.mpr (mt hlesson.mp hno)
        simp [hop, hsize, hfalse]
      · next hyes =>
        rw [Decidable.not_not] at hyes
        split at hr
        · next hindex =>
          cases hr
          simp [hop, hsize, hlesson.mpr hyes, hindex.1, Nat.not_lt.mpr hindex.2]
        · cases hr

/-- A lesson command is carried out where its checks hold. -/
theorem lessonCommand_accepted {s u : State} {kind tag : Byte} {p : List Byte} {size : Nat} {lessonOk : State → Bool}
    {k : State → Answer} (hkind : knownKind kind = true) (h : Takes s ⟨kind, tag, p⟩ u) (hop : s.op = .ready)
    (hsize : p.length = size) (hlesson : lessonOk u = true) :
    (s.command kind tag p fun s => s.lessonCommand p size (lessonOk s) (k s)) =
      .next ((k u).state.replied (kind + 0x80) tag (k u).result (k u).payload) := by
  have hreply : replyKind kind = kind + 0x80 := if_pos hkind
  rw [State.command_of_takes _ h, hreply, State.lessonCommand, h.op]
  simp [hop, hsize, hlesson]

theorem LessonState.current_iff (l : LessonState) : l.current = true ↔ l = .running ∨ l = .paused := by
  cases l <;> decide

/-- Settles O32: the five rows make the checks of 03 R45 in one order, START and GOTO that of the index besides. -/
theorem lessonCommandsAreRefused : Obligations.LessonCommandsAreRefused := by
  intro s u tag p
  refine ⟨fun r h hr => ?_, fun r h hr => ?_, fun r h hr => ?_, fun r h hr => ?_, fun r h hr => ?_⟩
  · exact lessonCommand_refused (lessonOk := fun s => decide (s.cycle.lesson = .loaded ∨ s.cycle.lesson = .finished))
      (hasIndex := true) (fun s => (s.startLesson (field p 0)).accept []) (by decide)
      (by rw [h.cycle]; exact decide_eq_true_iff) h hr
  · exact lessonCommand_refused (lessonOk := fun s => decide (s.cycle.lesson = .running)) (hasIndex := false)
      (fun s => ((s.putCycle { s.cycle with lesson := .paused }).mapRunning Running.pauseCut).accept []) (by decide)
      (by rw [h.cycle]; exact decide_eq_true_iff) h hr
  · exact lessonCommand_refused (lessonOk := fun s => decide (s.cycle.lesson = .paused)) (hasIndex := false)
      (fun s => (s.putCycle { s.cycle with lesson := .running }).cutInTest.accept []) (by decide)
      (by rw [h.cycle]; exact decide_eq_true_iff) h hr
  · exact lessonCommand_refused (lessonOk := fun s => s.cycle.lesson.current) (hasIndex := false)
      (fun s => s.stopLesson.accept []) (by decide) (by rw [h.cycle]; exact LessonState.current_iff _) h hr
  · exact lessonCommand_refused (lessonOk := fun s => s.cycle.lesson.current) (hasIndex := true)
      (fun s => (s.gotoWord (field p 0)).accept []) (by decide) (by rw [h.cycle]; exact LessonState.current_iff _) h hr

/-! ### START and GOTO (03 R46, R51) -/

theorem ResultRecord.skipOpen_eq :
    ResultRecord.skipOpen = fun r => if r.state = .opened then { r with state := .skipped } else r := by
  funext r
  unfold ResultRecord.skipOpen
  split <;> simp [*]

/-- A stopped timer is stopped again without effect. -/
theorem State.cueStop_restopped (s : State) :
    ({ s.cueStop with cue := s.cueStop.cue.stopped } : State).cutInTest =
      ({ s with cue := s.cue.stopped } : State).cutInTest := by
  have hstopped : ({ s.cueStop with cue := s.cueStop.cue.stopped } : State) = s.cueStop := by
    rw [State.cueStop_cue, State.cueStop_eq, State.cutInTest_eq]
    rfl
  rw [hstopped]
  exact State.cutInTest_twice (s.putCue s.cue.stopped)

/-- A word that begins after the timer was stopped begins from the state before: the begin stops the timer itself. -/
theorem WordBegan.of_cueStop {s t : State} {i : Nat} (h : WordBegan s.cueStop t i) : WordBegan s t i := by
  obtain ⟨hcycle, hcue, hintake, hphrases, hnow, hqueue, hword, hecho, hverdict, hcueplace, hswept, hsame⟩ := h
  rw [State.cueStop_restopped] at hswept
  rw [State.cueStop_cycle] at hcycle
  rw [State.cueStop_cue] at hcue
  rw [State.cueStop_intake] at hintake
  rw [State.cueStop_sources] at hphrases
  rw [State.place_cueStop] at hnow hqueue
  rw [State.phraseItem, State.cueStop_sources] at hword
  exact ⟨hcycle, hcue, hintake, hphrases, hnow, hqueue, hword, hecho, hverdict, hcueplace, hswept,
    (s.sameBut_cueStop.trans hsame).mono (by decide)⟩

/-- Settles O31: the index names a word, so the lesson is set up and the word begins; GOTO's own stop of the timer adds
nothing to that of the begin. -/
theorem startAndGotoBeginAWord : Obligations.StartAndGotoBeginAWord := by
  refine ⟨fun s u tag i h hop hlesson hi => ⟨u.startLesson i.toNat, ?_, ?_⟩,
    fun s u tag i h hop hlesson hi => ⟨u.gotoWord i.toNat, ?_, ?_⟩⟩
  · refine (lessonCommand_accepted (by decide) h hop rfl (decide_eq_true (by rwa [h.cycle]))).trans ?_
    rw [show u.indexOk (field [i] 0) = true from decide_eq_true (by rw [h.cycle]; exact hi)]
    rfl
  · rw [← h.cycle, ← h.judge]
    exact State.wordBegin_spec _ _
  · refine (lessonCommand_accepted (by decide) h hop rfl ?_).trans ?_
    · rw [h.cycle]
      exact (LessonState.current_iff _).mpr hlesson
    · rw [show u.indexOk (field [i] 0) = true from decide_eq_true (by rw [h.cycle]; exact hi)]
      rfl
  · rw [← h.cycle, ← h.judge, ← ResultRecord.skipOpen_eq]
    exact (State.wordBegin_spec _ _).of_cueStop

/-! ### PAUSE, RESUME and STOP (03 R47 to R50) -/

theorem Running.pauseCut_eq : Running.pauseCut = fun r =>
    if r.utterance.source.isLesson = true ∧ r.state = .playing then
      { r with state := .fading .restore 0, utterance := { r.utterance with resume := r.cursor.index } }
    else r := by
  funext r
  unfold Running.pauseCut
  by_cases hlesson : r.utterance.source.isLesson = true
  · by_cases hplaying : r.state = .playing
    · rw [if_pos hlesson, if_pos ⟨hlesson, hplaying⟩, r.cutRestore_playing hplaying]
    · rw [if_pos hlesson, if_neg fun h => hplaying h.2, r.cutRestore_fading hplaying]
  · rw [if_neg hlesson, if_neg fun h => hlesson h.1]

/-- With the lesson sources swept, the lesson state does not bear on who participates. -/
theorem State.participates_of_swept {s t : State} (hop : s.op = t.op) (hcue : s.cue = t.cue)
    (hplaces : s.sources.places = t.sources.places) (harbiter : s.arbiter = t.arbiter)
    (hswept : ∀ src : Source, src.isLesson = true → s.place src = ⟨[], none⟩) (c : Source) :
    s.participates c = t.participates c := by
  have hholds : s.holds c = t.holds c := by rw [State.holds, State.holds, hplaces]
  by_cases hc : c.isLesson = true
  · have hnothing : s.holds c = false := by
      have hplace : s.sources.places.get c = ⟨[], none⟩ := hswept c hc
      rw [State.holds, hplace]
      rfl
    rw [State.participates, State.participates, ← hholds, hnothing, Bool.and_false, Bool.and_false]
  · unfold State.participates State.eligible State.lockOn State.level
    rw [hholds, hop, hcue, harbiter]
    simp [hc]

theorem State.sameBut_sweep (s : State) : SameBut [.sources, .arbiter] s s.sweep := s.sweep_spec.2.2

theorem State.sameBut_mapResult (s : State) (i : Nat) (f : ResultRecord → ResultRecord) :
    SameBut [.cycle] s (s.mapResult i f) :=
  s.sameBut_putCycle _

/-- An accepted STOP (03 R50), block by block; the one cut-in test is that of the timer's stop, after the sweep. -/
theorem State.stopLesson_spec (s : State) :
    s.stopLesson.cycle = { s.cycle with
      lesson := .loaded, phase := .none, results := s.cycle.results.modify s.cycle.index ResultRecord.skipOpen } ∧
    s.stopLesson.judge = { s.judge with working := none } ∧
    s.stopLesson.intake = { s.intake with attempt := [], attemptFull := false, letterHold := false } ∧
    s.stopLesson.cue = s.cue.stopped ∧ SweptPlaces s s.stopLesson ∧ SweptRunning s s.stopLesson ∧
    SameBut [.cycle, .judge, .intake, .cue, .sources, .arbiter] s s.stopLesson := by
  let a := s.abandonJudging.mapResult s.cycle.index ResultRecord.skipOpen
  let b := a.sweep.clearAttempt
  have hsources : s.stopLesson.sources = a.sweep.sources := State.cueStop_sources b
  have hplace : ∀ src, s.stopLesson.place src = if src.isLesson = true then ⟨[], none⟩ else s.place src :=
    fun src => (congrArg (fun sources : Sources => sources.places.get src) hsources).trans (a.place_sweep src)
  have hphrases : s.stopLesson.sources.phrases = s.sources.phrases :=
    (congrArg Sources.phrases hsources).trans a.sweep_phrases
  refine ⟨?_, ?_, ?_, ?_, ⟨hphrases, hplace .now, hplace .queue, fun src hsrc => ?_⟩, ?_, ?_⟩
  · show ({ b.cueStop.cycle with phase := .none, lesson := .loaded } : Cycle) = _
    rw [State.cueStop_cycle]
    rfl
  · exact State.cueStop_judge b
  · exact State.cueStop_intake b
  · exact State.cueStop_cue b
  · rw [hplace, if_pos hsrc]
  · refine SweptRunning.of_test (c := b.putCue b.cue.stopped) s.sweep_arbiter rfl
      (State.participates_of_swept (State.cueStop_op b).symm (State.cueStop_cue b).symm
        (congrArg Sources.places hsources.symm) rfl fun src hsrc => (a.place_sweep src).trans (if_pos hsrc))
  · have hattempt : SameBut [.intake] a.sweep b := State.sameBut_putIntake _ _
    exact (((((s.sameBut_putJudge _).trans (State.sameBut_mapResult _ _ _)).trans a.sameBut_sweep).trans hattempt).trans
      (b.sameBut_cueStop.trans (State.sameBut_putCycle _ _))).mono (by decide)

theorem Takes.arbiter {s u : State} {f : HostFrame} (h : Takes s f u) : u.arbiter = s.arbiter :=
  h.sameBut.2.2 .arbiter (by simp)

theorem Takes.sources {s u : State} {f : HostFrame} (h : Takes s f u) : u.sources = s.sources :=
  h.sameBut.2.2 .sources (by simp)

/-- The sweep of the places is told from the sources alone. -/
theorem SweptPlaces.of_sources {s u t : State} (h : SweptPlaces u t) (hsources : u.sources = s.sources) :
    SweptPlaces s t := by
  unfold SweptPlaces State.place at *
  rwa [← hsources]

/-- Settles O33: the checks hold, and each command's effect is that of its own operation. -/
theorem pauseResumeAndStop : Obligations.PauseResumeAndStop := by
  refine ⟨fun s u tag h hop hlesson => ?_, fun s u tag h hop hlesson => ?_, fun s u tag h hop hlesson => ?_⟩
  · refine (lessonCommand_accepted (by decide) h hop rfl (decide_eq_true (by rwa [h.cycle]))).trans ?_
    rw [← Running.pauseCut_eq, ← h.cycle, ← h.arbiter]
    rfl
  · let a := u.putCycle { u.cycle with lesson := .running }
    refine ⟨a.cutInTest, ?_, ?_, ?_, .of_cutInTest rfl⟩
    · exact lessonCommand_accepted (by decide) h hop rfl (decide_eq_true (by rwa [h.cycle]))
    · exact (u.sameBut_putCycle _).trans a.sameBut_cutInTest
    · rw [State.cutInTest_cycle, ← h.cycle]
      rfl
  · obtain ⟨hcycle, hjudge, hintake, hcue, hplaces, hrunning, hsame⟩ := u.stopLesson_spec
    refine ⟨u.stopLesson, ?_, ?_, ?_, ?_, ?_, ?_, ?_, hsame⟩
    · refine lessonCommand_accepted (by decide) h hop rfl ?_
      rw [h.cycle]
      exact (LessonState.current_iff _).mpr hlesson
    · rw [← ResultRecord.skipOpen_eq, ← h.cycle]
      exact hcycle
    · rw [← h.judge]
      exact hjudge
    · rw [← h.intake]
      exact hintake
    · rw [← h.cue]
      exact hcue
    · exact hplaces.of_sources h.sources
    · rw [SweptRunning, ← h.arbiter]
      exact hrunning

/-! ### RELEASE WORD (03 R58) -/

/-- Settles O34: the row answers NOT_HELD, or by what the advance does. -/
theorem releaseWordAdvances : Obligations.ReleaseWordAdvances := by
  intro s u tag h hop
  have hrow := releaseCommand_ready (target := 2) State.releaseWordHold h hop (by decide)
  refine ⟨fun hphase => ?_, fun hphase hnext => ⟨u.advance, ?_, ?_⟩, fun hphase hlast => ⟨u.advance, ?_, ?_⟩⟩
  · refine hrow.trans ?_
    rw [State.releaseWordHold, h.cycle, decide_eq_false hphase]
    rfl
  · refine hrow.trans ?_
    rw [State.releaseWordHold, h.cycle, decide_eq_true hphase]
    rfl
  · rw [← h.cycle] at hnext ⊢
    exact (u.advance_spec.resolve_right fun hended => absurd hnext (Nat.not_lt.mpr hended.1)).2
  · refine hrow.trans ?_
    rw [State.releaseWordHold, h.cycle, decide_eq_true hphase]
    rfl
  · rw [← h.cycle] at hlast
    exact (u.advance_spec.resolve_left fun hbegan => absurd hbegan.1 (Nat.not_lt.mpr hlast)).2

end Sys2Proof.Machine
end

section
/-! PROOFS. LOAD_WORDS and CLEAR_WORDS (O30): what the bytes of a word record read as, and the answers of the two rows by
their checks in order. -/

namespace Sys2Proof.Machine

/-! ### Fields of a payload -/

theorem toNat_byteOf {n : Nat} (h : n < 256) : (byteOf n).toNat = n := by
  simp [byteOf, Nat.mod_eq_of_lt h]

theorem toNat_le16 {n : Nat} (h : n < 65536) : (byteOf n).toNat + 256 * (byteOf (n / 256)).toNat = n := by
  simp only [byteOf, BitVec.toNat_ofNat]
  omega

/-- A field behind a head of known length is a field of the tail. -/
theorem field_append_right {l m : List Byte} {n : Nat} (hl : l.length = n) (j : Nat) :
    field (l ++ m) (n + j) = field m j := by
  subst hl
  simp [field, List.getElem?_append_right]

/-- A run of whole records reads back record by record. -/
theorem records_flatten {size : Nat} {recs : List (List Byte)} (h : ∀ r ∈ recs, r.length = size) :
    records size recs.length recs.flatten = recs := by
  induction recs with
  | nil => rfl
  | cons r rest ih =>
    obtain ⟨hr, hrest⟩ := List.forall_mem_cons.mp h
    rw [List.length_cons, List.flatten_cons, records, List.take_left' hr, List.drop_left' hr, ih hrest]

theorem length_flatten_records {size : Nat} {recs : List (List Byte)} (h : ∀ r ∈ recs, r.length = size) :
    recs.flatten.length = size * recs.length := by
  induction recs with
  | nil => rfl
  | cons r rest ih =>
    obtain ⟨hr, hrest⟩ := List.forall_mem_cons.mp h
    rw [List.flatten_cons, List.length_append, hr, ih hrest, List.length_cons, Nat.mul_succ, Nat.add_comm]

/-! ### The word record (03 R42, 11 R174) -/

/-- The symbols of a whole record's spelling are the fields behind its length. -/
theorem mem_spellingOf {r : List Byte} (hr : r.length = 26) (hn : field r 0 ≤ 20) (x : Nat) :
    x ∈ spellingOf r ↔ ∃ j, j < field r 0 ∧ field r (1 + j) = x := by
  rw [spellingOf, Nat.min_eq_right hn, List.mem_map]
  constructor
  · rintro ⟨b, hb, rfl⟩
    obtain ⟨j, hj⟩ := List.mem_iff_getElem?.mp hb
    rw [List.getElem?_take, List.getElem?_drop] at hj
    split at hj
    · next hlt => exact ⟨j, hlt, by simp [field, hj]⟩
    · cases hj
  · rintro ⟨j, hj, rfl⟩
    have hlt : 1 + j < r.length := by omega
    refine ⟨r[1 + j], List.mem_iff_getElem?.mpr ⟨j, ?_⟩, by simp [field, hlt]⟩
    rw [List.getElem?_take, if_pos hj, List.getElem?_drop, List.getElem?_eq_getElem hlt]

/-- The value checks of a whole record, field by field. -/
theorem wordRecordOk_imp {r : List Byte} (hr : r.length = 26) (h : wordRecordOk r = true) :
    (1 ≤ field r 0 ∧ field r 0 ≤ 20) ∧ (∀ j, j < field r 0 → 1 ≤ field r (1 + j) ∧ field r (1 + j) ≤ 28) ∧
      ∃ j, j < field r 0 ∧ field r (1 + j) ≤ 26 := by
  simp only [wordRecordOk, Bool.and_eq_true, decide_eq_true_eq, List.all_eq_true, List.any_eq_true, isSymbol,
    isLetter] at h
  obtain ⟨⟨hlength, hsymbols⟩, x, hx, -, hletter⟩ := h
  refine ⟨hlength, fun j hj => hsymbols _ ((mem_spellingOf hr hlength.2 _).mpr ⟨j, hj, rfl⟩), ?_⟩
  obtain ⟨j, hj, rfl⟩ := (mem_spellingOf hr hlength.2 x).mp hx
  exact ⟨j, hj, hletter⟩

/-- The bytes of a word record (11 R174) as the host sends it, with the hints byte as sent. -/
def WordRecord.bytes (w : WordRecord) (hints : Nat) : List Byte :=
  byteOf w.spelling.length :: (w.spelling.map byteOf ++ List.replicate (20 - w.spelling.length) 0) ++
    le16 w.wordClip ++ le16 w.sentenceClip ++ [byteOf hints]

section
variable {w : WordRecord} (hlength : w.spelling.length ≤ 20)
include hlength

theorem WordRecord.length_bytes (hints : Nat) : (w.bytes hints).length = 26 := by
  simp [WordRecord.bytes, le16]
  omega

theorem WordRecord.spellingOf_bytes (hints : Nat) (hsymbols : ∀ x ∈ w.spelling, 1 ≤ x ∧ x ≤ 28) :
    spellingOf (w.bytes hints) = w.spelling := by
  have hcount : field (w.bytes hints) 0 = w.spelling.length := toNat_byteOf (by omega)
  have hread : (w.spelling.map byteOf).map BitVec.toNat = w.spelling := by
    rw [List.map_map]
    refine (List.map_congr_left fun x hx => ?_).trans (List.map_id _)
    exact toNat_byteOf (Nat.lt_of_le_of_lt (hsymbols x hx).2 (by decide))
  obtain ⟨rest, hrest⟩ : ∃ rest, (w.bytes hints).drop 1 = w.spelling.map byteOf ++ rest :=
    ⟨_, by simp only [WordRecord.bytes, List.cons_append, List.append_assoc]; rfl⟩
  rw [spellingOf, hcount, Nat.min_eq_right hlength, hrest, List.take_left' (List.length_map _), hread]

theorem WordRecord.numbers_bytes (hints : Nat) (hword : w.wordClip < 65536) (hsentence : w.sentenceClip < 65536)
    (hhints : hints < 256) : field16 (w.bytes hints) 21 = w.wordClip ∧ field16 (w.bytes hints) 23 = w.sentenceClip ∧
      field (w.bytes hints) 25 = hints := by
  let head := byteOf w.spelling.length :: (w.spelling.map byteOf ++ List.replicate (20 - w.spelling.length) 0)
  let tail := le16 w.wordClip ++ le16 w.sentenceClip ++ [byteOf hints]
  have hbytes : w.bytes hints = head ++ tail := by simp [WordRecord.bytes, head, tail]
  have hhead : head.length = 21 := by
    simp [head]
    omega
  have hfield : ∀ j, field (w.bytes hints) (21 + j) = field tail j := fun j => by
    rw [hbytes, field_append_right hhead]
  refine ⟨?_, ?_, (hfield 4).trans (toNat_byteOf hhints)⟩
  · exact (congr (congrArg (fun a b => a + 256 * b) (hfield 0)) (hfield 1)).trans (toNat_le16 hword)
  · exact (congr (congrArg (fun a b => a + 256 * b) (hfield 2)) (hfield 3)).trans (toNat_le16 hsentence)

end

/-! ### The answers of the two rows -/

/-- LOAD_WORDS is answered by its checks in the order of the table of 03 R42. -/
theorem execLoadWords_of {s u : State} {tag : Byte} {p : List Byte} (h : Takes s ⟨0x20, tag, p⟩ u) :
    exec (.loadWords tag p) s = .next
      (if s.op ≠ .ready then u.replied 0xA0 tag .state []
       else if loadSize p = false then u.replied 0xA0 tag .length []
       else if s.cycle.lesson.current = true then u.replied 0xA0 tag .state []
       else if (loadRecords p).all wordRecordOk = false then u.replied 0xA0 tag .range []
       else if 32 < s.cycle.words.length + field p 0 then u.replied 0xA0 tag .full []
       else (u.load p).replied 0xA0 tag .ok [byteOf (u.load p).cycle.words.length]) := by
  have hkind : replyKind 0x20 = 0xA0 := by decide
  rw [exec, execLoadWords, State.command_of_takes _ h, hkind, h.op, h.lessonIdle, h.cycle]
  by_cases hop : s.op = .ready
  · cases hsize : loadSize p
    · simp [hop]
    · cases hlesson : s.cycle.lesson.current
      · cases hvalues : (loadRecords p).all wordRecordOk
        · simp [hop]
        · by_cases hfull : 32 < s.cycle.words.length + field p 0
          · simp [hop, hfull, Config.tableCapacity, Nat.not_le.mpr hfull]
          · simp [hop, hfull, Config.tableCapacity, Nat.le_of_not_lt hfull]
      · simp [hop]
  · simp [hop]

/-- In a LOAD_WORDS of the right size with lawful records, each record's fields are within the ranges of 03 R42. -/
theorem loadRecords_imp {p : List Byte} (hsize : loadSize p = true) (h : (loadRecords p).all wordRecordOk = true)
    {i : Nat} (hi : i < field p 0) :
    (1 ≤ field p (1 + 26 * i) ∧ field p (1 + 26 * i) ≤ 20) ∧
      (∀ j, j < field p (1 + 26 * i) → 1 ≤ field p (1 + 26 * i + 1 + j) ∧ field p (1 + 26 * i + 1 + j) ≤ 28) ∧
      ∃ j, j < field p (1 + 26 * i) ∧ field p (1 + 26 * i + 1 + j) ≤ 26 := by
  have hrecord := List.all_eq_true.mp h _ (mem_records (size := 26) (p.drop 1) hi)
  rw [List.drop_drop] at hrecord
  obtain ⟨-, -, -, hlength⟩ := of_decide_eq_true hsize
  have hwhole : ((p.drop (1 + 26 * i)).take 26).length = 26 := by
    rw [List.length_take, List.length_drop]
    omega
  have hfield : ∀ j, j < 25 → field ((p.drop (1 + 26 * i)).take 26) (1 + j) = field p (1 + 26 * i + 1 + j) := by
    intro j hj
    rw [field_record _ _ (by omega), Nat.add_assoc (1 + 26 * i)]
  obtain ⟨hcount, hsymbols, j, hj, hletter⟩ := wordRecordOk_imp hwhole hrecord
  rw [field_record _ _ (by decide), Nat.add_zero] at hcount hsymbols hj
  refine ⟨hcount, fun j hj => ?_, j, hj, ?_⟩
  · rw [← hfield j (by omega)]
    exact hsymbols j hj
  · rw [← hfield j (by omega)]
    exact hletter

/-- A command that READY alone accepts and that carries nothing is answered by its two checks. -/
theorem readyBare_of_takes {s u : State} {kind tag : Byte} {p : List Byte} (k : State → Answer)
    (hkind : knownKind kind = true) (h : Takes s ⟨kind, tag, p⟩ u) :
    (s.command kind tag p fun s => s.readyBare p (k s)) = .next
      (if s.op ≠ .ready then u.replied (kind + 0x80) tag .state []
       else if p ≠ [] then u.replied (kind + 0x80) tag .length []
       else (k u).state.replied (kind + 0x80) tag (k u).result (k u).payload) := by
  have hreply : replyKind kind = kind + 0x80 := if_pos hkind
  rw [State.command_of_takes _ h, hreply, State.readyBare, h.op]
  by_cases hop : s.op = .ready
  · cases p with
    | nil => simp [hop]
    | cons b rest => simp [hop]
  · simp [hop]

/-- Settles O30: LOAD_WORDS by its answers in order, on a payload of whole records and on any payload; the record's bytes
field by field; CLEAR_WORDS by its checks. -/
theorem wordTableLoadsAndClears : Obligations.WordTableLoadsAndClears := by
  refine ⟨?_, ?_, ?_, ?_⟩
  · intro s u tag recs h hop hidle hne hcount hrecs
    have hwhole : ∀ r ∈ recs, r.length = 26 := fun r hr => (hrecs r hr).1
    have hfield : field (byteOf recs.length :: recs.flatten) 0 = recs.length := toNat_byteOf (by omega)
    have hpos : 1 ≤ recs.length := List.length_pos_iff.mpr hne
    have hsize : loadSize (byteOf recs.length :: recs.flatten) = true := by
      refine decide_eq_true ?_
      rw [hfield, List.length_cons, length_flatten_records hwhole]
      omega
    have hread : loadRecords (byteOf recs.length :: recs.flatten) = recs := by
      rw [loadRecords, hfield]
      exact records_flatten hwhole
    have hvalues : recs.all wordRecordOk = true := List.all_eq_true.mpr fun r hr => (hrecs r hr).2
    rw [execLoadWords_of h, hread, hfield, hvalues, State.load, hread, h.cycle]
    simp only [hop, hidle, hsize, ne_eq, not_true_eq_false, Bool.true_eq_false, Bool.false_eq_true, if_false]
    split
    · rfl
    · rw [State.putCycle_cycle, List.length_append, List.length_map]
      rfl
  · intro s u tag p h count sized symbol badRecord
    have hsize : loadSize p = true ↔ sized := by
      refine decide_eq_true_iff.trans ?_
      omega
    rw [execLoadWords_of h]
    refine ⟨fun hop => ?_, fun hop hno => ?_, fun hop hs hlesson => ?_, fun hop hs hidle hbad => ?_⟩
    · simp [hop]
    · simp [hop, Bool.eq_false_iff.mpr (mt hsize.mp hno)]
    · simp [hop, hsize.mpr hs, hlesson]
    · have hvalues : (loadRecords p).all wordRecordOk = false := by
        obtain ⟨i, hi, hbad⟩ := hbad
        refine Bool.eq_false_iff.mpr fun hall => ?_
        obtain ⟨hlength, hsymbols, j, hj, hletter⟩ := loadRecords_imp (hsize.mpr hs) hall hi
        rcases hbad with hbad | hbad | ⟨j, hj, hbad⟩ | hbad
        · omega
        · omega
        · have hsymbol : 1 ≤ symbol i j ∧ symbol i j ≤ 28 := hsymbols j hj
          omega
        · exact absurd hletter (Nat.not_le.mpr (hbad j hj))
      simp [hop, hsize.mpr hs, hidle, hvalues]
  · intro w hints hpos hlength hsymbols hletter hword hsentence hhints hallowed
    have hspelling := WordRecord.spellingOf_bytes hlength hints hsymbols
    obtain ⟨hclip, hsent, hhint⟩ := WordRecord.numbers_bytes hlength hints hword hsentence hhints
    refine ⟨WordRecord.length_bytes hlength hints, ?_, ?_⟩
    · have hcount : field (w.bytes hints) 0 = w.spelling.length := toNat_byteOf (by omega)
      have hall : w.spelling.all isSymbol = true := List.all_eq_true.mpr fun x hx => decide_eq_true (hsymbols x hx)
      have hany : w.spelling.any isLetter = true := by
        obtain ⟨x, hx, hle⟩ := hletter
        exact List.any_eq_true.mpr ⟨x, hx, decide_eq_true ⟨(hsymbols x hx).1, hle⟩⟩
      show wordRecordOk (w.bytes hints) = true
      rw [wordRecordOk, hspelling, hcount, hall, hany, decide_eq_true ⟨hpos, hlength⟩]
      rfl
    · show wordRecordOf (w.bytes hints) = w
      rw [wordRecordOf, hspelling, hclip, hsent, hhint, ← hallowed]
  · intro s u tag p h
    refine (readyBare_of_takes _ (by decide) h).trans ?_
    have hidle : u.lessonIdle = !s.cycle.lesson.current := h.lessonIdle
    rw [hidle, h.cycle]
    by_cases hlesson : s.cycle.lesson.current = true
    · rw [if_pos ((LessonState.current_iff _).mp hlesson), hlesson]
      rfl
    · rw [if_neg (mt (LessonState.current_iff _).mpr hlesson), Bool.eq_false_iff.mpr hlesson]
      rfl

end Sys2Proof.Machine
end

section
/-! PROOFS. The queries (O29): the bytes of STATUS, GET_ATTEMPT, GET_TALLY and GET_RESULTS by their offsets (11 R176). -/

namespace Sys2Proof.Machine

/-! ### STATUS (10 R171) -/

theorem State.runningBytes_eq (s : State) : s.runningBytes =
    [(s.arbiter.running.map fun r => r.utterance.source.code).getD 0xFF,
      (s.arbiter.running.map fun r => r.utterance.kind.code).getD 0,
      (s.arbiter.running.map fun r => r.state.code).getD 0] := by
  unfold State.runningBytes
  split
  · next hnone => rw [hnone]; rfl
  · next r hr => rw [hr]; rfl

/-- Six flags in one byte, the first in bit 0. -/
def flagBits (a b c d e f : Bool) : Nat :=
  (if a then 1 else 0) + (if b then 2 else 0) + (if c then 4 else 0) + (if d then 8 else 0) + (if e then 16 else 0) +
    (if f then 32 else 0)

theorem getLsbD_flagBits : ∀ (a b c d e f : Bool) (i : Fin 8),
    (byteOf (flagBits a b c d e f)).getLsbD i = [a, b, c, d, e, f].getD i false := by
  decide

/-- Bit i of the backups' byte is that of source i of the tie order. -/
theorem State.getLsbD_backupBits (s : State) {i : Nat} (hi : i < 8) :
    (byteOf s.backupBits).getLsbD i = (tieOrder.map fun src => (s.place src).backup.isSome).getD i false :=
  getLsbD_flagBits _ _ _ _ _ _ ⟨i, hi⟩

/-! ### Lists at their full size (11 R172) -/

theorem length_padded (n : Nat) (l : List Byte) : (padded n l).length = n := by
  simp only [padded, List.length_append, List.length_take, List.length_replicate]
  omega

theorem getElem?_padded {n i : Nat} (l : List Byte) (hi : i < n) : (padded n l)[i]? = some (l.getD i 0) := by
  unfold padded
  by_cases hlt : i < l.length
  · rw [List.getElem?_append_left (by rw [List.length_take]; omega), List.getElem?_take_of_lt hi]
    simp [hlt]
  · rw [List.getElem?_append_right (by rw [List.length_take]; omega), List.getElem?_replicate_of_lt
      (by rw [List.length_take]; omega)]
    simp [Nat.not_lt.mp hlt]

theorem getElem?_padded_bytes {n i : Nat} (l : List Nat) (hi : i < n) :
    (padded n (l.map byteOf))[i]? = some (byteOf (l.getD i 0)) := by
  rw [getElem?_padded _ hi, List.getD_eq_getElem?_getD, List.getD_eq_getElem?_getD, List.getElem?_map]
  cases l[i]? <;> rfl

/-- An entry behind a part of known length is one of the rest. -/
theorem getElem?_append_at {α : Type} {l m : List α} {n : Nat} (hl : l.length = n) (j : Nat) :
    (l ++ m)[n + j]? = m[j]? := by
  subst hl
  rw [List.getElem?_append_right (Nat.le_add_right _ _), Nat.add_sub_cancel_left]

/-! ### GET_ATTEMPT (02 R37) -/

/-- The first 27 bytes of GET_ATTEMPT: the Attempt, its flag and the intake state. -/
def State.attemptBytes (s : State) : List Byte :=
  byteOf s.intake.attempt.length :: (padded 24 (s.intake.attempt.map byteOf) ++
    [flagByte s.intake.attemptFull, s.intakeState.code])

theorem State.attemptPayload_eq (s : State) : s.attemptPayload = s.attemptBytes ++ lastJudgedBytes s.judge.last := rfl

theorem State.length_attemptBytes (s : State) : s.attemptBytes.length = 27 := by
  simp [State.attemptBytes, length_padded]

theorem length_lastJudgedBytes (last : Option Judgement) : (lastJudgedBytes last).length = 55 := by
  cases last with
  | none => rfl
  | some j => simp [lastJudgedBytes, length_padded]

/-- The bytes of the Attempt, by their offsets. -/
theorem State.attemptBytes_spec (s : State) :
    s.attemptBytes[0]? = some (byteOf s.intake.attempt.length) ∧
    (∀ i, i < 24 → s.attemptBytes[1 + i]? = some (byteOf (s.intake.attempt.getD i 0))) ∧
    s.attemptBytes[25]? = some (flagByte s.intake.attemptFull) ∧ s.attemptBytes[26]? = some s.intakeState.code := by
  have hlist : (padded 24 (s.intake.attempt.map byteOf)).length = 24 := length_padded _ _
  refine ⟨rfl, fun i hi => ?_, getElem?_append_at hlist 0, getElem?_append_at hlist 1⟩
  rw [State.attemptBytes, Nat.add_comm, List.getElem?_cons_succ, List.getElem?_append_left (by omega),
    getElem?_padded_bytes _ hi]

/-- The bytes of the last-judged record, by their offsets in it. -/
theorem lastJudgedBytes_spec (j : Judgement) :
    let bytes := lastJudgedBytes (some j)
    bytes[0]? = some 1 ∧ bytes[1]? = some (byteOf j.wordIndex) ∧ bytes[2]? = some (byteOf j.tryNumber) ∧
    bytes[3]? = some (byteOf j.attempt.length) ∧
    (∀ i, i < 24 → bytes[4 + i]? = some (byteOf (j.attempt.getD i 0))) ∧
    bytes[28]? = some j.rule.code ∧ bytes[29]? = some (byteOf j.marks.length) ∧
    (∀ i, i < 20 → bytes[30 + i]? = some ((j.marks[i]?.map Mark.code).getD 0)) ∧
    bytes[50]? = some (byteOf j.extra) ∧ bytes[51]? = some (byteOf j.letterErrors) ∧
    bytes[52]? = some (byteOf j.distance) ∧ bytes[53]? = some (byteOf j.score) ∧ bytes[54]? = some j.verdict.code := by
  intro bytes
  let tail := [byteOf j.extra, byteOf j.letterErrors, byteOf j.distance, byteOf j.score, j.verdict.code]
  let marks := padded 20 (j.marks.map Mark.code)
  let attempt := padded 24 (j.attempt.map byteOf)
  have hattempt : attempt.length = 24 := length_padded _ _
  have hmarks : marks.length = 20 := length_padded _ _
  have hbytes : bytes = [1, byteOf j.wordIndex, byteOf j.tryNumber, byteOf j.attempt.length] ++
      (attempt ++ ([j.rule.code, byteOf j.marks.length] ++ (marks ++ tail))) := by
    simp [bytes, lastJudgedBytes, attempt, marks, tail]
  have hmiddle : ∀ i, bytes[28 + i]? = ([j.rule.code, byteOf j.marks.length] ++ (marks ++ tail))[i]? := fun i => by
    rw [hbytes, ← List.append_assoc]
    exact getElem?_append_at (by simp [hattempt]) i
  have htail : ∀ i, bytes[50 + i]? = tail[i]? := fun i => by
    rw [show 50 + i = 28 + (2 + (20 + i)) by omega, hmiddle, getElem?_append_at (n := 2) rfl, getElem?_append_at hmarks]
  refine ⟨?_, ?_, ?_, ?_, fun i hi => ?_, hmiddle 0, hmiddle 1, fun i hi => ?_, htail 0, htail 1, htail 2, htail 3,
    htail 4⟩
  · rw [hbytes]; rfl
  · rw [hbytes]; rfl
  · rw [hbytes]; rfl
  · rw [hbytes]; rfl
  · rw [hbytes, getElem?_append_at (n := 4) rfl, List.getElem?_append_left (by omega)]
    exact getElem?_padded_bytes _ hi
  · rw [show 30 + i = 28 + (2 + i) by omega, hmiddle, getElem?_append_at (n := 2) rfl,
      List.getElem?_append_left (by omega), getElem?_padded _ hi, List.getD_eq_getElem?_getD, List.getElem?_map]

/-! ### The four answers -/

theorem Takes.state {s u : State} {f : HostFrame} (h : Takes s f u) : ∃ l, u = { s with link := l } := by
  obtain ⟨-, -, -, rest, -, rfl⟩ := h
  exact ⟨_, rfl⟩

theorem execStatus_of {s u : State} {tag : Byte} {p : List Byte} (h : Takes s ⟨0x01, tag, p⟩ u) :
    exec (.status tag p) s = .next
      (if p ≠ [] then u.replied 0x81 tag .length [] else u.replied 0x81 tag .ok u.statusPayload) := by
  rw [exec, execStatus, State.command_of_takes _ h, show replyKind 0x01 = 0x81 by decide]
  cases p <;> rfl

/-- GET_RESULTS is answered by its checks in order (03 R60). -/
theorem execGetResults_of {s u : State} {tag : Byte} {p : List Byte} (h : Takes s ⟨0x29, tag, p⟩ u) :
    exec (.getResults tag p) s = .next
      (if s.op ≠ .ready then u.replied 0xA9 tag .state []
       else if p.length ≠ 2 then u.replied 0xA9 tag .length []
       else if 31 < field p 0 ∨ field p 1 = 0 ∨ 32 < field p 1 ∨ 31 < field p 0 + field p 1 - 1 then
        u.replied 0xA9 tag .range []
       else u.replied 0xA9 tag .ok (s.cycle.resultsPayload (field p 0) (field p 1))) := by
  rw [exec, execGetResults, State.command_of_takes _ h, show replyKind 0x29 = 0xA9 by decide, h.op, h.cycle]
  by_cases hop : s.op = .ready
  · by_cases hsize : p.length = 2
    · by_cases hrange : field p 0 ≤ 31 ∧ 1 ≤ field p 1 ∧ field p 1 ≤ 32 ∧ field p 0 + field p 1 ≤ 32
      · rw [if_neg (Decidable.not_not.mpr hop), if_neg (Decidable.not_not.mpr hsize), if_neg (by omega), decide_eq_true hop,
          decide_eq_true hsize, decide_eq_true hrange]
        rfl
      · rw [if_neg (Decidable.not_not.mpr hop), if_neg (Decidable.not_not.mpr hsize), if_pos (by omega), decide_eq_true hop,
          decide_eq_true hsize, decide_eq_false hrange]
        rfl
    · simp [hop, hsize]
  · simp [hop]

/-- Settles O29: each row by its checks, and each payload by its offsets. -/
theorem queriesReportAndChangeNothing : Obligations.QueriesReportAndChangeNothing := by
  refine ⟨fun s u tag p h => ⟨execStatus_of h, ?_, fun i src hsrc => ?_, ?_, ?_⟩, fun s u tag p h => ⟨?_, ?_⟩,
    fun s u tag p h => ?_, fun s u tag p h hresults => ?_⟩
  · obtain ⟨l, rfl⟩ := h.state
    rw [State.statusPayload, State.runningBytes_eq]
    rfl
  · have hi : i < 6 := (List.getElem?_eq_some_iff.mp hsrc).1
    rw [State.getLsbD_backupBits s (by omega), List.getD_eq_getElem?_getD, List.getElem?_map, hsrc]
    rfl
  · exact s.getLsbD_backupBits (by decide)
  · exact s.getLsbD_backupBits (by decide)
  · obtain ⟨l, rfl⟩ := h.state
    exact readyBare_of_takes (fun s => s.accept s.attemptPayload) (by decide) h
  · obtain ⟨hcount, hsymbols, hfull, hstate⟩ := s.attemptBytes_spec
    have hfirst : ∀ i, i < 27 → s.attemptPayload[i]? = s.attemptBytes[i]? := fun i hi => by
      rw [State.attemptPayload_eq, List.getElem?_append_left (by rwa [State.length_attemptBytes])]
    have hlast : ∀ i, s.attemptPayload[27 + i]? = (lastJudgedBytes s.judge.last)[i]? :=
      getElem?_append_at s.length_attemptBytes
    refine ⟨?_, (hfirst 0 (by decide)).trans hcount, fun i hi => (hfirst _ (by omega)).trans (hsymbols i hi),
      (hfirst 25 (by decide)).trans hfull, (hfirst 26 (by decide)).trans hstate, fun hnone i hlow hhigh => ?_,
      fun j hj => ?_⟩
    · rw [State.attemptPayload_eq, List.length_append, State.length_attemptBytes, length_lastJudgedBytes]
    · obtain ⟨k, rfl⟩ := Nat.exists_eq_add_of_le hlow
      refine (hlast k).trans ?_
      rw [hnone]
      exact List.getElem?_replicate_of_lt (by omega)
    · rw [hj] at hlast
      obtain ⟨h0, h1, h2, h3, hletters, h28, h29, hmarks, h50, h51, h52, h53, h54⟩ := lastJudgedBytes_spec j
      refine ⟨(hlast 0).trans h0, (hlast 1).trans h1, (hlast 2).trans h2, (hlast 3).trans h3, fun i hi => ?_,
        (hlast 28).trans h28, (hlast 29).trans h29, fun i hi => ?_, (hlast 50).trans h50, (hlast 51).trans h51,
        (hlast 52).trans h52, (hlast 53).trans h53, (hlast 54).trans h54⟩
      · rw [show 31 + i = 27 + (4 + i) by omega]
        exact (hlast _).trans (hletters i hi)
      · rw [show 57 + i = 27 + (30 + i) by omega]
        exact (hlast _).trans (hmarks i hi)
  · obtain ⟨l, rfl⟩ := h.state
    exact readyBare_of_takes (fun s => s.accept s.judge.tallyPayload) (by decide) h
  · intro first count records
    refine ⟨execGetResults_of h, fun hle => ?_⟩
    have hwhole : ∀ r ∈ records, r.length = 7 := by
      intro r hr
      obtain ⟨_, -, rfl⟩ := List.mem_map.mp hr
      rfl
    have hcount : records.length = count := by
      simp only [records, List.length_map, List.length_take, List.length_drop, hresults]
      omega
    rw [length_flatten_records hwhole, hcount]

end Sys2Proof.Machine
end

section
/-! PROOFS. The distance table (O36). Each row and each entry keeps its value while the table grows, so the finished table
satisfies the equations of 04 R67 cell by cell; what a cell is at most, and which of its values it is, follow from them. -/

namespace Sys2Proof.Machine

/-! ### Rows and entries of a growing table -/

theorem tableAt_append_of_lt {t u : List (List Nat)} {i : Nat} (j : Nat) (h : i < t.length) :
    tableAt (t ++ u) i j = tableAt t i j := by
  simp [tableAt, List.getElem?_append_left h]

theorem tableAt_append_last {t : List (List Nat)} {i : Nat} (row : List Nat) (j : Nat) (h : t.length = i) :
    tableAt (t ++ [row]) i j = row.getD j 0 := by
  subst h
  simp [tableAt]

theorem length_firstRow (n : Nat) : (firstRow n).length = n + 1 := by
  induction n with
  | zero => rfl
  | succ n ih => simp [firstRow, ih]

theorem getElem?_firstRow {n j : Nat} (h : j ≤ n) : (firstRow n)[j]? = some (2 * j) := by
  induction n with
  | zero =>
    obtain rfl : j = 0 := by omega
    rfl
  | succ n ih =>
    rw [firstRow]
    rcases Nat.lt_or_eq_of_le h with hlt | rfl
    · rw [List.getElem?_append_left (by rw [length_firstRow]; omega), ih (by omega)]
    · rw [List.getElem?_append_right (Nat.le_of_eq (length_firstRow n)), length_firstRow, Nat.sub_self]
      rfl

section
variable (pairs : List (Nat × Nat)) (A T : List Nat)

theorem length_tableRow (above : List (List Nat)) (i n : Nat) : (tableRow pairs A T above i n).length = n + 1 := by
  induction n with
  | zero => rfl
  | succ n ih => simp [tableRow, ih]

/-- An entry keeps its value while its row grows. -/
theorem getD_tableRow_of_le (above : List (List Nat)) (i : Nat) {j n : Nat} (h : j ≤ n) :
    (tableRow pairs A T above i n).getD j 0 = (tableRow pairs A T above i j).getD j 0 := by
  induction n with
  | zero =>
    obtain rfl : j = 0 := by omega
    rfl
  | succ n ih =>
    rcases Nat.lt_or_eq_of_le h with hlt | rfl
    · rw [tableRow, List.getD_eq_getElem?_getD, List.getElem?_append_left (by rw [length_tableRow]; omega),
        ← List.getD_eq_getElem?_getD, ih (by omega)]
    · rfl

theorem length_distanceTable (m : Nat) : (distanceTable pairs A T m).length = m + 1 := by
  induction m with
  | zero => rfl
  | succ m ih => simp [distanceTable, ih]

/-- A row keeps its entries while the table grows. -/
theorem tableAt_distanceTable_of_le {i m : Nat} (j : Nat) (h : i ≤ m) :
    tableAt (distanceTable pairs A T m) i j = tableAt (distanceTable pairs A T i) i j := by
  induction m with
  | zero =>
    obtain rfl : i = 0 := by omega
    rfl
  | succ m ih =>
    rcases Nat.lt_or_eq_of_le h with hlt | rfl
    · rw [distanceTable, tableAt_append_of_lt _ (by rw [length_distanceTable]; omega), ih (by omega)]
    · rfl

/-! ### The cells of the finished table (04 R67) -/

/-- Cell (i, j) of the distance table. -/
def cell (i j : Nat) : Nat := tableAt (fullTable pairs A T) i j

theorem distance_eq_cell : distance pairs A T = cell pairs A T A.length T.length := rfl

theorem cell_eq_distanceTable {i : Nat} (j : Nat) {m : Nat} (hm : i ≤ m) (hi : i ≤ A.length) :
    cell pairs A T i j = tableAt (distanceTable pairs A T m) i j := by
  rw [cell, fullTable, tableAt_distanceTable_of_le _ _ _ _ hi, tableAt_distanceTable_of_le _ _ _ _ hm]

theorem cell_succ {i : Nat} (j : Nat) (hi : i < A.length) :
    cell pairs A T (i + 1) j =
      (tableRow pairs A T (distanceTable pairs A T i) (i + 1) T.length).getD j 0 := by
  rw [cell_eq_distanceTable pairs A T j (Nat.le_refl _) hi]
  exact tableAt_append_last _ _ (length_distanceTable _ _ _ _)

theorem cell_zero_left {j : Nat} (hj : j ≤ T.length) : cell pairs A T 0 j = 2 * j := by
  rw [cell_eq_distanceTable pairs A T j (Nat.le_refl _) (Nat.zero_le _)]
  exact congrArg (Option.getD · 0) (getElem?_firstRow hj)

theorem cell_zero_right {i : Nat} (hi : i ≤ A.length) : cell pairs A T i 0 = 2 * i := by
  cases i with
  | zero => exact cell_zero_left pairs A T (Nat.zero_le _)
  | succ i => rw [cell_succ _ _ _ _ hi, getD_tableRow_of_le _ _ _ _ _ (Nat.zero_le _)]; rfl

theorem cell_first_row {j : Nat} (hpos : 1 ≤ j) (hj : j ≤ T.length) :
    cell pairs A T 0 j = cell pairs A T 0 (j - 1) + 2 := by
  rw [cell_zero_left _ _ _ hj, cell_zero_left _ _ _ (by omega)]
  omega

theorem cell_first_column {i : Nat} (hpos : 1 ≤ i) (hi : i ≤ A.length) :
    cell pairs A T i 0 = cell pairs A T (i - 1) 0 + 2 := by
  rw [cell_zero_right _ _ _ hi, cell_zero_right _ _ _ (by omega)]
  omega

/-- The least of a cell's three values that need no swap. -/
def leastCell (i j : Nat) : Nat :=
  min (cell pairs A T (i - 1) (j - 1) + stepCost pairs (symbolAt A i) (symbolAt T j))
    (min (cell pairs A T (i - 1) j + 2) (cell pairs A T i (j - 1) + 2))

/-- The equation of an inner cell. -/
theorem cell_inner {i j : Nat} (hi : 1 ≤ i) (hiA : i ≤ A.length) (hj : 1 ≤ j) (hjT : j ≤ T.length) :
    cell pairs A T i j =
      if swapHere A T i j = true then min (leastCell pairs A T i j) (cell pairs A T (i - 2) (j - 2) + 1)
      else leastCell pairs A T i j := by
  obtain ⟨i, rfl⟩ := Nat.exists_eq_add_of_le' hi
  obtain ⟨j, rfl⟩ := Nat.exists_eq_add_of_le' hj
  have habove : ∀ r c, r ≤ i → tableAt (distanceTable pairs A T i) r c = cell pairs A T r c := fun r c hr =>
    (cell_eq_distanceTable pairs A T c hr (by omega)).symm
  have hrow : (tableRow pairs A T (distanceTable pairs A T i) (i + 1) j).getD j 0 = cell pairs A T (i + 1) j := by
    rw [cell_succ _ _ _ _ hiA]
    exact (getD_tableRow_of_le _ _ _ _ _ (by omega)).symm
  have hcell : cell pairs A T (i + 1) (j + 1) =
      cellValue pairs A T (distanceTable pairs A T i)
        (tableRow pairs A T (distanceTable pairs A T i) (i + 1) j) (i + 1) (j + 1) := by
    rw [cell_succ _ _ _ _ hiA, getD_tableRow_of_le _ _ _ _ _ hjT, tableRow]
    simp [length_tableRow]
  rw [hcell, cellValue, leastCell]
  simp only [Nat.add_sub_cancel, habove i _ (Nat.le_refl _), habove (i + 1 - 2) _ (by omega), hrow]

theorem stepCost_self (a : Nat) : stepCost pairs a a = 0 := if_pos rfl

theorem stepCost_le_two (a b : Nat) : stepCost pairs a b ≤ 2 := by
  unfold stepCost
  split
  · omega
  · split <;> omega

section
variable {A T} {i j : Nat} (hi : 1 ≤ i) (hiA : i ≤ A.length) (hj : 1 ≤ j) (hjT : j ≤ T.length)
include hi hiA hj hjT

/-- A cell is at most the value of setting its two symbols against each other. -/
theorem cell_le_diag :
    cell pairs A T i j ≤ cell pairs A T (i - 1) (j - 1) + stepCost pairs (symbolAt A i) (symbolAt T j) := by
  rw [cell_inner pairs A T hi hiA hj hjT, leastCell]
  split <;> omega

/-- An inner cell is one of the values it is the least of. -/
theorem cell_inner_cases :
    cell pairs A T i j = cell pairs A T (i - 1) (j - 1) + stepCost pairs (symbolAt A i) (symbolAt T j) ∨
    (swapHere A T i j = true ∧ cell pairs A T i j = cell pairs A T (i - 2) (j - 2) + 1) ∨
    cell pairs A T i j = cell pairs A T i (j - 1) + 2 ∨ cell pairs A T i j = cell pairs A T (i - 1) j + 2 := by
  rw [cell_inner pairs A T hi hiA hj hjT, leastCell]
  split
  · next hswap =>
    simp only [hswap, true_and]
    omega
  · omega

end

theorem cell_le_two_mul_max {i j : Nat} (hi : i ≤ A.length) (hj : j ≤ T.length) :
    cell pairs A T i j ≤ 2 * max i j := by
  induction i generalizing j with
  | zero => rw [cell_zero_left _ _ _ hj]; omega
  | succ i ih =>
    cases j with
    | zero => rw [cell_zero_right _ _ _ hi]; omega
    | succ j =>
      have hdiag := cell_le_diag pairs (Nat.le_add_left 1 i) hi (Nat.le_add_left 1 j) hj
      have hcost := stepCost_le_two pairs (symbolAt A (i + 1)) (symbolAt T (j + 1))
      have hprev : cell pairs A T i j ≤ 2 * max i j := ih (by omega) (by omega)
      simp only [Nat.add_sub_cancel] at hdiag
      omega

end

/-- Settles O36: the border of the table, the equation of its inner cells, and the bound. -/
theorem distanceTableRule : Obligations.DistanceTableRule := by
  intro pairs A T D a b
  refine ⟨fun j => cell_zero_left pairs A T, fun i => cell_zero_right pairs A T, fun i j hi hiA hj hjT => ?_, rfl,
    cell_le_two_mul_max pairs A T (Nat.le_refl _) (Nat.le_refl _)⟩
  refine (cell_inner pairs A T hi hiA hj hjT).trans ?_
  exact ite_congr decide_eq_true_eq (fun _ => rfl) fun _ => rfl

end Sys2Proof.Machine
end

section
/-! PROOFS. The marks and the letter errors (O37). A step of the traceback is told by the rows and columns it goes back, its
marks, its extra count and its cost (04 R68); what the traceback gives from a cell is then what it gives from the cell
before, with the step's marks and extra count. -/

namespace Sys2Proof.Machine

/-! ### The steps of the traceback (04 R68) -/

/-- How many symbols of the attempt a step goes back over. -/
def TraceStep.rows : TraceStep → Nat
  | .matched => 1
  | .swap => 2
  | .near => 1
  | .wrong => 1
  | .missing => 0
  | .extra => 1

/-- The marks a step gives, one for each symbol of the target that it goes back over. -/
def TraceStep.marks : TraceStep → List Mark
  | .matched => [.right]
  | .swap => [.swapped, .swapped]
  | .near => [.near]
  | .wrong => [.wrong]
  | .missing => [.missing]
  | .extra => []

/-- What a step adds to the extra count. -/
def TraceStep.extras : TraceStep → Nat
  | .matched => 0
  | .swap => 0
  | .near => 0
  | .wrong => 0
  | .missing => 0
  | .extra => 1

/-- What a step costs: the difference of its two cells. -/
def TraceStep.cost : TraceStep → Nat
  | .matched => 0
  | .swap => 1
  | .near => 1
  | .wrong => 2
  | .missing => 2
  | .extra => 2

/-- A step goes back over some symbol. -/
theorem TraceStep.pos (k : TraceStep) : 0 < k.rows + k.marks.length := by cases k <;> decide

theorem TraceStep.extras_le_rows (k : TraceStep) : k.extras ≤ k.rows := by cases k <;> decide

theorem TraceStep.passed_notMem_marks (k : TraceStep) : Mark.passed ∉ k.marks := by cases k <;> decide

/-- A step that costs nothing is a match. -/
theorem TraceStep.cost_eq_zero {k : TraceStep} : k.cost = 0 ↔ k = .matched := by cases k <;> decide

/-- A step that gives no letter error is a match. -/
theorem TraceStep.letterErrorCount_eq_zero {k : TraceStep} : letterErrorCount k.marks k.extras = 0 ↔ k = .matched := by
  cases k <;> decide

/-- What the traceback gives from a cell, told by its step there and by what it gives from the other cells. -/
def TraceStep.after (k : TraceStep) (M : Nat → Nat → List Mark × Nat) (i j : Nat) : List Mark × Nat :=
  ((M (i - k.rows) (j - k.marks.length)).1 ++ k.marks, (M (i - k.rows) (j - k.marks.length)).2 + k.extras)

theorem TraceStep.after_extra (M : Nat → Nat → List Mark × Nat) (i j : Nat) :
    TraceStep.extra.after M i j = ((M (i - 1) j).1, (M (i - 1) j).2 + 1) :=
  congrArg (·, (M (i - 1) j).2 + 1) (List.append_nil _)

theorem TraceStep.after_ite (c : Prop) [Decidable c] (k l : TraceStep) (M : Nat → Nat → List Mark × Nat) (i j : Nat) :
    (if c then k else l).after M i j = if c then k.after M i j else l.after M i j :=
  apply_ite (fun step : TraceStep => step.after M i j) c k l

section
variable (pairs : List (Nat × Nat)) (A T : List Nat)

/-! ### The traceback, step by step -/

/-- A step stays within the table and its two cells differ by its cost. -/
theorem traceStep_imp {t : List (List Nat)} {i j : Nat} {k : TraceStep} (h : traceStep pairs A T t i j = some k) :
    k.rows ≤ i ∧ k.marks.length ≤ j ∧ tableAt t i j = tableAt t (i - k.rows) (j - k.marks.length) + k.cost ∧
      (k = .matched → symbolAt A i = symbolAt T j) := by
  simp only [traceStep, swapHere, Bool.and_eq_true, decide_eq_true_eq, Bool.not_eq_true'] at h
  split at h
  · next hmatch =>
    cases h
    obtain ⟨⟨⟨hi, hj⟩, hsymbol⟩, hcell⟩ := hmatch
    exact ⟨hi, hj, hcell, fun _ => hsymbol⟩
  · split at h
    · next hswap =>
      cases h
      obtain ⟨⟨hi, hj, -⟩, hcell⟩ := hswap
      exact ⟨hi, hj, hcell, nofun⟩
    · split at h
      · next hnear =>
        cases h
        obtain ⟨⟨⟨⟨hi, hj⟩, -⟩, -⟩, hcell⟩ := hnear
        exact ⟨hi, hj, hcell, nofun⟩
      · split at h
        · next hwrong =>
          cases h
          obtain ⟨⟨⟨⟨hi, hj⟩, -⟩, -⟩, hcell⟩ := hwrong
          exact ⟨hi, hj, hcell, nofun⟩
        · split at h
          · next hmissing =>
            cases h
            obtain ⟨hj, hcell⟩ := hmissing
            exact ⟨Nat.zero_le _, hj, hcell, nofun⟩
          · split at h
            · next hextra =>
              cases h
              obtain ⟨hi, hcell⟩ := hextra
              exact ⟨hi, Nat.zero_le _, hcell, nofun⟩
            · cases h

/-- The two cells of a step differ by its cost. -/
theorem cell_of_step {i j : Nat} {k : TraceStep} (hk : traceStep pairs A T (fullTable pairs A T) i j = some k) :
    cell pairs A T i j = cell pairs A T (i - k.rows) (j - k.marks.length) + k.cost := by
  obtain ⟨-, -, hcell, -⟩ := traceStep_imp pairs A T hk
  exact hcell

theorem traceback_of_none {t : List (List Nat)} {i j : Nat} (h : traceStep pairs A T t i j = none) (fuel : Nat)
    (marks : List Mark) (extra : Nat) : traceback pairs A T t (fuel + 1) i j marks extra = (marks, extra) := by
  rw [traceback, h]

theorem traceback_of_step {t : List (List Nat)} {i j : Nat} {k : TraceStep} (h : traceStep pairs A T t i j = some k)
    (fuel : Nat) (marks : List Mark) (extra : Nat) :
    traceback pairs A T t (fuel + 1) i j marks extra =
      traceback pairs A T t fuel (i - k.rows) (j - k.marks.length) (k.marks ++ marks) (extra + k.extras) := by
  rw [traceback, h]
  cases k <;> rfl

/-- The marks and the extra count gathered so far do not bear on the steps. -/
theorem traceback_append (t : List (List Nat)) (fuel i j : Nat) (marks : List Mark) (extra : Nat) :
    traceback pairs A T t fuel i j marks extra =
      ((traceback pairs A T t fuel i j [] 0).1 ++ marks, (traceback pairs A T t fuel i j [] 0).2 + extra) := by
  induction fuel generalizing i j marks extra with
  | zero => simp [traceback]
  | succ fuel ih =>
    cases hk : traceStep pairs A T t i j with
    | none => simp [traceback_of_none pairs A T hk]
    | some k =>
      rw [traceback_of_step pairs A T hk, traceback_of_step pairs A T hk, ih _ _ (k.marks ++ marks),
        ih _ _ (k.marks ++ [])]
      simp only [List.append_nil, List.append_assoc, Nat.zero_add, Nat.add_comm extra, Nat.add_assoc]

theorem traceback_origin (t : List (List Nat)) (fuel : Nat) : traceback pairs A T t fuel 0 0 [] 0 = ([], 0) := by
  cases fuel <;> rfl

/-- Fuel beyond i + j changes nothing: each step goes back. -/
theorem traceback_fuel (t : List (List Nat)) {fuel fuel' i j : Nat} (h : i + j ≤ fuel) (h' : i + j ≤ fuel') :
    traceback pairs A T t fuel i j [] 0 = traceback pairs A T t fuel' i j [] 0 := by
  induction fuel generalizing fuel' i j with
  | zero =>
    obtain ⟨rfl, rfl⟩ : i = 0 ∧ j = 0 := by omega
    rw [traceback_origin, traceback_origin]
  | succ fuel ih =>
    cases fuel' with
    | zero =>
      obtain ⟨rfl, rfl⟩ : i = 0 ∧ j = 0 := by omega
      rw [traceback_origin, traceback_origin]
    | succ fuel' =>
      cases hk : traceStep pairs A T t i j with
      | none => rw [traceback_of_none pairs A T hk, traceback_of_none pairs A T hk]
      | some k =>
        have hback := k.pos
        obtain ⟨hrows, hcols, -, -⟩ := traceStep_imp pairs A T hk
        rw [traceback_of_step pairs A T hk, traceback_of_step pairs A T hk, traceback_append,
          traceback_append (fuel := fuel'), ih (fuel' := fuel') (by omega) (by omega)]

/-- What the traceback gives from cell (i, j). -/
def traceFrom (i j : Nat) : List Mark × Nat := traceback pairs A T (fullTable pairs A T) (i + j) i j [] 0

theorem traceMarks_eq : traceMarks pairs A T = traceFrom pairs A T A.length T.length := rfl

theorem traceFrom_of_step {i j : Nat} {k : TraceStep} (hk : traceStep pairs A T (fullTable pairs A T) i j = some k) :
    traceFrom pairs A T i j = k.after (traceFrom pairs A T) i j := by
  have hback := k.pos
  obtain ⟨hrows, hcols, -, -⟩ := traceStep_imp pairs A T hk
  obtain ⟨n, hn⟩ := Nat.exists_eq_add_of_le' (show 1 ≤ i + j by omega)
  rw [traceFrom, hn, traceback_of_step pairs A T hk, traceback_append,
    traceback_fuel pairs A T _ (by omega) (Nat.le_refl _), List.append_nil, Nat.zero_add]
  rfl

/-- The step at cell (i, j), in the order of 04 R68; the last one is left when no other holds. -/
def stepAt (i j : Nat) : TraceStep :=
  let D := cell pairs A T
  let a := symbolAt A
  let b := symbolAt T
  if 1 ≤ i ∧ 1 ≤ j ∧ a i = b j ∧ D i j = D (i - 1) (j - 1) then .matched
  else if 2 ≤ i ∧ 2 ≤ j ∧ a i = b (j - 1) ∧ a (i - 1) = b j ∧ a i ≠ a (i - 1) ∧ D i j = D (i - 2) (j - 2) + 1 then .swap
  else if 1 ≤ i ∧ 1 ≤ j ∧ paired pairs (a i) (b j) = true ∧ D i j = D (i - 1) (j - 1) + 1 then .near
  else if 1 ≤ i ∧ 1 ≤ j ∧ a i ≠ b j ∧ paired pairs (a i) (b j) = false ∧ D i j = D (i - 1) (j - 1) + 2 then .wrong
  else if 1 ≤ j ∧ D i j = D i (j - 1) + 2 then .missing
  else .extra

/-- Every cell of the table but the origin has a step: with none of the first five there is an extra one. -/
theorem traceStep_eq {i j : Nat} (hi : i ≤ A.length) (hj : j ≤ T.length) (hpos : 1 ≤ i + j) :
    traceStep pairs A T (fullTable pairs A T) i j = some (stepAt pairs A T i j) := by
  have hnear : 1 ≤ i → 1 ≤ j → cell pairs A T i j = cell pairs A T (i - 1) (j - 1) + 1 → symbolAt A i ≠ symbolAt T j := by
    intro hi' hj' hcell hsymbol
    have hdiag := cell_le_diag pairs hi' hi hj' hj
    rw [hsymbol, stepCost_self] at hdiag
    omega
  unfold traceStep stepAt
  simp only [apply_ite some, swapHere, Bool.and_eq_true, decide_eq_true_eq, Bool.not_eq_true', and_assoc]
  refine ite_congr rfl (fun _ => rfl) fun hmatch => ite_congr rfl (fun _ => rfl) fun hswap =>
    ite_congr (propext ?_) (fun _ => rfl) fun hnot => ite_congr rfl (fun _ => rfl) fun hwrong =>
      ite_congr rfl (fun _ => rfl) fun hmissing => if_pos ?_
  · exact ⟨fun ⟨hi', hj', _, h⟩ => ⟨hi', hj', h⟩, fun ⟨hi', hj', hp, hcell⟩ => ⟨hi', hj', hnear hi' hj' hcell, hp, hcell⟩⟩
  · have hrow : 1 ≤ i := by
      refine Nat.pos_of_ne_zero fun hzero => hmissing ⟨by omega, ?_⟩
      subst hzero
      exact cell_first_row pairs A T (by omega) hj
    refine ⟨hrow, ?_⟩
    rcases Nat.eq_zero_or_pos j with rfl | hcol
    · exact cell_first_column pairs A T hrow hi
    · rcases cell_inner_cases pairs hrow hi hcol hj with hcell | ⟨hhere, hcell⟩ | hcell | hcell
      · unfold stepCost at hcell
        split at hcell
        · next hsymbol => exact absurd ⟨hrow, hcol, hsymbol, hcell⟩ hmatch
        · next hsymbol =>
          split at hcell
          · next hpaired => exact absurd ⟨hrow, hcol, hpaired, hcell⟩ hnot
          · next hpaired => exact absurd ⟨hrow, hcol, hsymbol, Bool.eq_false_iff.mpr hpaired, hcell⟩ hwrong
      · obtain ⟨hi2, hj2, hfirst, hsecond, hne⟩ := of_decide_eq_true hhere
        exact absurd ⟨hi2, hj2, hfirst, hsecond, hne, hcell⟩ hswap
      · exact absurd ⟨hcol, hcell⟩ hmissing
      · exact hcell

/-! ### What holds from every cell -/

/-- Induction along the traceback: what holds at the origin and is kept by every step holds at every cell. -/
theorem cell_induction {motive : Nat → Nat → Prop} (origin : motive 0 0)
    (step : ∀ i j k, i ≤ A.length → j ≤ T.length → traceStep pairs A T (fullTable pairs A T) i j = some k →
      motive (i - k.rows) (j - k.marks.length) → motive i j) {i j : Nat} (hi : i ≤ A.length) (hj : j ≤ T.length) :
    motive i j := by
  induction hn : i + j using Nat.strongRecOn generalizing i j with
  | _ n ih =>
    rcases Nat.eq_zero_or_pos (i + j) with hzero | hpos
    · obtain ⟨rfl, rfl⟩ : i = 0 ∧ j = 0 := by omega
      exact origin
    · obtain ⟨k, hk⟩ : ∃ k, traceStep pairs A T (fullTable pairs A T) i j = some k :=
        ⟨_, traceStep_eq pairs A T hi hj hpos⟩
      obtain ⟨hrows, hcols, -, -⟩ := traceStep_imp pairs A T hk
      have hback := k.pos
      exact step i j k hi hj hk (ih _ (by omega) (by omega) (by omega) rfl)

/-- The traceback from a cell gives one mark for each symbol of the target before it, none of them PASSED, and counts
symbols of the attempt before it as extra. -/
theorem traceFrom_bounds {i j : Nat} (hi : i ≤ A.length) (hj : j ≤ T.length) :
    (traceFrom pairs A T i j).1.length = j ∧ Mark.passed ∉ (traceFrom pairs A T i j).1 ∧
      (traceFrom pairs A T i j).2 ≤ i := by
  refine cell_induction pairs A T (motive := fun i j => (traceFrom pairs A T i j).1.length = j ∧
    Mark.passed ∉ (traceFrom pairs A T i j).1 ∧ (traceFrom pairs A T i j).2 ≤ i) ⟨rfl, List.not_mem_nil, Nat.le_refl _⟩
    (fun i j k _ _ hk ⟨hlength, hpassed, hextra⟩ => ?_) hi hj
  obtain ⟨hrows, hcols, -, -⟩ := traceStep_imp pairs A T hk
  have hextras := k.extras_le_rows
  rw [traceFrom_of_step pairs A T hk, TraceStep.after]
  refine ⟨?_, ?_, ?_⟩
  · rw [List.length_append, hlength]
    omega
  · rw [List.mem_append, not_or]
    exact ⟨hpassed, k.passed_notMem_marks⟩
  · dsimp only
    omega

theorem letterErrorCount_append (ms ns : List Mark) (m n : Nat) :
    letterErrorCount (ms ++ ns) (m + n) = letterErrorCount ms m + letterErrorCount ns n := by
  simp only [letterErrorCount, List.countP_append]
  omega

/-- A step costs nothing exactly when it gives no letter error, so neither does the way from a cell. -/
theorem letterErrorCount_traceFrom {i j : Nat} (hi : i ≤ A.length) (hj : j ≤ T.length) :
    letterErrorCount (traceFrom pairs A T i j).1 (traceFrom pairs A T i j).2 = 0 ↔ cell pairs A T i j = 0 := by
  refine cell_induction pairs A T (motive := fun i j =>
    letterErrorCount (traceFrom pairs A T i j).1 (traceFrom pairs A T i j).2 = 0 ↔ cell pairs A T i j = 0) ?_
    (fun i j k _ _ hk ih => ?_) hi hj
  · exact iff_of_true rfl (cell_zero_left _ _ _ (Nat.zero_le _))
  · rw [traceFrom_of_step pairs A T hk, TraceStep.after, letterErrorCount_append, cell_of_step pairs A T hk, Nat.add_eq_zero_iff,
      Nat.add_eq_zero_iff, ih, k.letterErrorCount_eq_zero, k.cost_eq_zero]

/-- From a cell of value 0 every step is a match. -/
theorem take_eq_take_of_cell {i j : Nat} (hi : i ≤ A.length) (hj : j ≤ T.length) (h : cell pairs A T i j = 0) :
    A.take i = T.take j := by
  refine cell_induction pairs A T (motive := fun i j => cell pairs A T i j = 0 → A.take i = T.take j) (fun _ => rfl)
    (fun i j k hi hj hk ih hzero => ?_) hi hj h
  obtain ⟨hrows, hcols, -, hsymbol⟩ := traceStep_imp pairs A T hk
  obtain ⟨hprev, hcost⟩ := Nat.add_eq_zero_iff.mp ((cell_of_step pairs A T hk).symm.trans hzero)
  obtain rfl := TraceStep.cost_eq_zero.mp hcost
  obtain ⟨i, rfl⟩ : ∃ n, i = n + 1 := Nat.exists_eq_add_of_le' hrows
  obtain ⟨j, rfl⟩ : ∃ n, j = n + 1 := Nat.exists_eq_add_of_le' hcols
  have hfront : A.take i = T.take j := ih hprev
  have hiA : i < A.length := hi
  have hjT : j < T.length := hj
  have hlast : A[i] = T[j] := by simpa [symbolAt, hiA, hjT] using hsymbol rfl
  rw [List.take_succ_eq_append_getElem hi, List.take_succ_eq_append_getElem hj, hfront, hlast]

end

theorem cell_self (pairs : List (Nat × Nat)) (A : List Nat) {i : Nat} (hi : i ≤ A.length) : cell pairs A A i i = 0 := by
  induction i with
  | zero => exact cell_zero_left _ _ _ hi
  | succ i ih =>
    have hdiag := cell_le_diag pairs (Nat.le_add_left 1 i) hi (Nat.le_add_left 1 i) hi
    rw [stepCost_self, Nat.add_sub_cancel, ih (by omega)] at hdiag
    omega

/-- The distance is 0 exactly between equal lists (04 R71). -/
theorem distance_eq_zero_iff (pairs : List (Nat × Nat)) (A T : List Nat) : distance pairs A T = 0 ↔ A = T := by
  constructor
  · intro h
    simpa using take_eq_take_of_cell pairs A T (Nat.le_refl _) (Nat.le_refl _) h
  · rintro rfl
    exact cell_self pairs A (Nat.le_refl _)

/-! ### The marks at the positions of the target (04 R66, R69) -/

theorem reduce_cons (rule : MarkRule) (x : Nat) (l : List Nat) :
    reduce rule (x :: l) = if rule = .skip ∧ isMark x = true then reduce rule l else x :: reduce rule l := by
  cases rule <;> cases h : isMark x <;> simp [reduce, h]

theorem length_reduce_le (rule : MarkRule) (l : List Nat) : (reduce rule l).length ≤ l.length := by
  cases rule with
  | strict => exact Nat.le_refl _
  | skip => exact List.length_filter_le _ _

theorem length_placeMarks (rule : MarkRule) (l : List Nat) (ms : List Mark) : (placeMarks rule l ms).length = l.length := by
  induction l generalizing ms with
  | nil => rfl
  | cons x l ih =>
    rw [placeMarks]
    split <;> simp [ih]

/-- A position of the target is PASSED exactly where the mark rule removes its symbol. -/
theorem getElem?_placeMarks_passed (rule : MarkRule) (l : List Nat) {ms : List Mark} (hms : Mark.passed ∉ ms) (i : Nat) :
    (placeMarks rule l ms)[i]? = some .passed ↔ rule = .skip ∧ ∃ x, l[i]? = some x ∧ isMark x = true := by
  induction l generalizing ms i with
  | nil => simp [placeMarks]
  | cons x l ih =>
    rw [placeMarks]
    have hhead : ms.headD .right ≠ .passed := by
      cases ms with
      | nil => decide
      | cons m ms => exact fun h => hms (by simp [← h])
    have htail : Mark.passed ∉ ms.tail := fun h => hms (List.mem_of_mem_tail h)
    split
    · next hx =>
      cases i with
      | zero => simpa using hx
      | succ i => simpa using ih hms i
    · next hx =>
      cases i with
      | zero => exact iff_of_false (fun h => hhead (Option.some.inj h)) (by simpa using hx)
      | succ i => simpa using ih htail i

/-- With one mark for each symbol that the mark rule leaves, the marks placed besides PASSED are those marks. -/
theorem filter_placeMarks (rule : MarkRule) (l : List Nat) {ms : List Mark} (hlength : ms.length = (reduce rule l).length)
    (hms : Mark.passed ∉ ms) : (placeMarks rule l ms).filter (fun k => decide (k ≠ .passed)) = ms := by
  induction l generalizing ms with
  | nil =>
    have hnil : (reduce rule []).length = 0 := Nat.le_zero.mp (length_reduce_le rule [])
    exact (List.length_eq_zero_iff.mp (hlength.trans hnil)).symm
  | cons x l ih =>
    rw [reduce_cons] at hlength
    rw [placeMarks]
    split
    · next hx =>
      rw [if_pos hx] at hlength
      simpa using ih hlength hms
    · next hx =>
      rw [if_neg hx] at hlength
      cases ms with
      | nil => simp at hlength
      | cons m ms =>
        obtain ⟨hm, hrest⟩ := not_or.mp (mt List.mem_cons.mpr hms)
        simpa [Ne.symm hm] using ih (by simpa using hlength) hrest

theorem Mark.isError_eq (k : Mark) : k.isError = decide (k = .near ∨ k = .swapped ∨ k = .wrong ∨ k = .missing) := by
  cases k <;> decide

/-- A PASSED mark is no letter error. -/
theorem countP_isError_filter (ms : List Mark) :
    (ms.filter fun k => decide (k ≠ .passed)).countP Mark.isError = ms.countP Mark.isError := by
  rw [List.countP_filter]
  refine List.countP_congr fun k _ => ?_
  cases k <;> decide

/-- Settles O37: the marks placed are those of the traceback, and its letter errors are those of its steps that cost. -/
theorem marksAndErrorsMatchTheDistance : Obligations.MarksAndErrorsMatchTheDistance := by
  intro r threshold v
  let A := reduce r.rule r.attempt
  let T := reduce r.rule r.target
  obtain ⟨hlength, hpassed, hextra⟩ := traceFrom_bounds r.pairs A T (Nat.le_refl _) (Nat.le_refl _)
  have hmarksLength : v.marks.length = r.target.length := length_placeMarks _ _ _
  have hfilter : v.marks.filter (fun k => decide (k ≠ .passed)) = (traceFrom r.pairs A T A.length T.length).1 :=
    filter_placeMarks r.rule r.target hlength hpassed
  have herrors : v.letterErrors = v.marks.countP Mark.isError + v.extra := rfl
  refine ⟨hmarksLength, getElem?_placeMarks_passed _ _ hpassed, ?_, ?_, ?_, distance_eq_zero_iff _ _ _, ?_⟩
  · refine ⟨traceFrom r.pairs A T, rfl, fun i j hi hj hpos => ?_, hfilter, rfl⟩
    refine (traceFrom_of_step r.pairs A T (traceStep_eq r.pairs A T hi hj hpos)).trans ?_
    simp only [stepAt, TraceStep.after_ite, TraceStep.after_extra]
    rfl
  · rw [herrors, ← funext Mark.isError_eq]
  · rw [herrors, ← countP_isError_filter, hfilter]
    exact letterErrorCount_traceFrom r.pairs A T (Nat.le_refl _) (Nat.le_refl _)
  · have hcount : v.marks.countP Mark.isError ≤ v.marks.length := List.countP_le_length
    have hreduced : A.length ≤ r.attempt.length := length_reduce_le _ _
    have hcountExtra : v.extra ≤ A.length := hextra
    omega

end Sys2Proof.Machine
end

section
/-! PROOFS. The score and the verdict (O38; 04 R70, R71). -/

namespace Sys2Proof.Machine

/-- The score is the rounded share of the credit: the quotient of one division, with its remainder (04 R70). -/
theorem scoreOf_bounds {d n : Nat} (hn : 1 ≤ n) (h : d < 2 * n) :
    2 * n * scoreOf d n ≤ 100 * (2 * n - d) + n ∧ 100 * (2 * n - d) + n < 2 * n * (scoreOf d n + 1) := by
  rw [scoreOf, if_neg (Nat.not_le.mpr h)]
  exact ⟨Nat.mul_div_le _ _, Nat.lt_mul_div_succ _ (by omega)⟩

theorem scoreOf_of_le {d n : Nat} (h : 2 * n ≤ d) : scoreOf d n = 0 := if_pos h

theorem scoreOf_zero {n : Nat} (hn : 1 ≤ n) : scoreOf 0 n = 100 := by
  rw [scoreOf, if_neg (by omega), Nat.div_eq_iff (by omega)]
  omega

/-- With at most 20 symbols a distance of 1 costs more than one point (04 R71). -/
theorem scoreOf_le_98 {d n : Nat} (hn : n ≤ 20) (hd : 1 ≤ d) : scoreOf d n ≤ 98 := by
  unfold scoreOf
  split
  · omega
  · refine Nat.le_of_lt_succ ((Nat.div_lt_iff_lt_mul (by omega)).mpr ?_)
    omega

theorem scoreOf_eq_100 {d n : Nat} (hn : 1 ≤ n) (hn20 : n ≤ 20) : scoreOf d n = 100 ↔ d = 0 := by
  constructor
  · intro h
    refine (Nat.eq_zero_or_pos d).resolve_right fun hd => ?_
    have hle := scoreOf_le_98 hn20 hd
    omega
  · rintro rfl
    exact scoreOf_zero hn

theorem scoreOf_le_100 {d n : Nat} (hn : 1 ≤ n) (hn20 : n ≤ 20) : scoreOf d n ≤ 100 := by
  rcases Nat.eq_zero_or_pos d with rfl | hd
  · exact Nat.le_of_eq (scoreOf_zero hn)
  · exact Nat.le_trans (scoreOf_le_98 hn20 hd) (by decide)

theorem verdictOf_zero (score threshold : Nat) : verdictOf 0 score threshold = .exact := rfl

theorem verdictOf_pos {d score threshold : Nat} (hd : 1 ≤ d) :
    verdictOf d score threshold = if threshold ≤ score then .close else .wrong :=
  if_neg (Nat.ne_of_gt hd)

theorem verdictOf_eq_exact {d score threshold : Nat} : verdictOf d score threshold = .exact ↔ d = 0 := by
  rcases Nat.eq_zero_or_pos d with rfl | hd
  · exact iff_of_true (verdictOf_zero _ _) rfl
  · rw [verdictOf_pos hd]
    refine iff_of_false ?_ (Nat.ne_of_gt hd)
    split <;> exact nofun

theorem verdictOf_eq_close {d score threshold : Nat} :
    verdictOf d score threshold = .close ↔ 1 ≤ d ∧ threshold ≤ score := by
  rcases Nat.eq_zero_or_pos d with rfl | hd
  · exact iff_of_false nofun nofun
  · rw [verdictOf_pos hd]
    split
    · next hclose => exact iff_of_true rfl ⟨hd, hclose⟩
    · next hclose => exact iff_of_false nofun fun h => hclose h.2

theorem verdictOf_eq_wrong {d score threshold : Nat} :
    verdictOf d score threshold = .wrong ↔ 1 ≤ d ∧ score < threshold := by
  rcases Nat.eq_zero_or_pos d with rfl | hd
  · exact iff_of_false nofun nofun
  · rw [verdictOf_pos hd]
    split
    · next hclose => exact iff_of_false nofun fun h => Nat.not_lt.mpr hclose h.2
    · next hclose => exact iff_of_true rfl ⟨hd, Nat.lt_of_not_le hclose⟩

/-- Settles O38: the score by its division, and the verdict by the distance and the threshold. -/
theorem scoreAndVerdictRules : Obligations.ScoreAndVerdictRules := by
  constructor
  · intro d n hn hn20
    exact ⟨scoreOf_of_le, scoreOf_bounds hn, scoreOf_eq_100 hn hn20, scoreOf_le_98 hn20⟩
  · intro r threshold _ _ hn hn20 v
    exact ⟨rfl, verdictOf_eq_exact, (scoreOf_eq_100 hn hn20).trans verdictOf_eq_exact.symm, scoreOf_le_100 hn hn20,
      distance_eq_zero_iff _ _ _, verdictOf_eq_close, verdictOf_eq_wrong⟩

end Sys2Proof.Machine
end

section
/-! PROOFS. SET_PAIRS and SET_LETTERS (O27): what the pair list holds and which letters it pairs (04 R64, R65), and what the
map entries are after a run (08 R147). -/

namespace Sys2Proof.Machine

/-! ### The pair list (04 R64, R65) -/

theorem samePair_iff (p q : Nat × Nat) : samePair p q = true ↔ (p.1 = q.1 ∧ p.2 = q.2) ∨ (p.1 = q.2 ∧ p.2 = q.1) :=
  decide_eq_true_iff

theorem samePair_comm (p q : Nat × Nat) : samePair p q = true ↔ samePair q p = true := by
  rw [samePair_iff, samePair_iff]
  omega

theorem samePair_trans {p q r : Nat × Nat} (h : samePair p q = true) (h' : samePair p r = true) : samePair q r = true := by
  rw [samePair_iff] at *
  omega

/-- Two letters are paired when the list holds their pair. -/
theorem paired_iff (pairs : List (Nat × Nat)) (a b : Nat) :
    paired pairs a b = true ↔ ∃ p ∈ pairs, samePair p (a, b) = true := List.any_eq_true

theorem paired_append (ps qs : List (Nat × Nat)) (a b : Nat) :
    paired (ps ++ qs) a b = (paired ps a b || paired qs a b) := List.any_append

/-- A pair equal to an earlier one pairs no further letters. -/
theorem paired_of_held {held : List (Nat × Nat)} {p : Nat × Nat} (h : held.any (samePair p) = true) {a b : Nat}
    (hp : samePair p (a, b) = true) : paired held a b = true := by
  obtain ⟨q, hq, hsame⟩ := List.any_eq_true.mp h
  exact (paired_iff held a b).mpr ⟨q, hq, samePair_trans hsame hp⟩

/-- The pairs added are some of those carried, in their order. -/
theorem addPairs_eq_append (held ps : List (Nat × Nat)) : ∃ new, new.Sublist ps ∧ addPairs held ps = held ++ new := by
  induction ps generalizing held with
  | nil => exact ⟨[], List.Sublist.refl _, (List.append_nil _).symm⟩
  | cons p rest ih =>
    rw [addPairs]
    split
    · obtain ⟨new, hsub, heq⟩ := ih held
      exact ⟨new, hsub.cons p, heq⟩
    · obtain ⟨new, hsub, heq⟩ := ih (held ++ [p])
      exact ⟨p :: new, hsub.cons_cons p, heq.trans (List.append_assoc _ _ _)⟩

/-- No pair is added twice. -/
theorem pairwise_addPairs {held : List (Nat × Nat)} (ps : List (Nat × Nat))
    (h : held.Pairwise fun p q => ¬samePair p q = true) : (addPairs held ps).Pairwise fun p q => ¬samePair p q = true := by
  induction ps generalizing held with
  | nil => exact h
  | cons p rest ih =>
    rw [addPairs]
    split
    · exact ih h
    · next hnew =>
      refine ih (List.pairwise_append.mpr ⟨h, List.pairwise_singleton _ _, fun q hq r hr hsame => hnew ?_⟩)
      obtain rfl := List.mem_singleton.mp hr
      exact List.any_eq_true.mpr ⟨q, hq, (samePair_comm q r).mp hsame⟩

/-- The letters paired after an addition are those paired before and those of the pairs carried. -/
theorem paired_addPairs (held ps : List (Nat × Nat)) (a b : Nat) :
    paired (addPairs held ps) a b = (paired held a b || paired ps a b) := by
  induction ps generalizing held with
  | nil => simp [addPairs, paired]
  | cons p rest ih =>
    have hcons : paired (p :: rest) a b = (samePair p (a, b) || paired rest a b) := rfl
    rw [addPairs]
    split
    · next hheld =>
      rw [ih, hcons]
      cases hp : samePair p (a, b) with
      | false => rw [Bool.false_or]
      | true => rw [paired_of_held hheld hp, Bool.true_or, Bool.true_or]
    · rw [ih, hcons, paired_append, Bool.or_assoc]
      have hone : paired [p] a b = samePair p (a, b) := Bool.or_false _
      rw [hone]

/-- The pairs that a payload of SET_PAIRS declares, read back. -/
theorem pairsOf_run {ps : List (Byte × Byte)} (h : ps.length < 256) :
    pairsOf (byteOf ps.length :: ps.flatMap fun r => [r.1, r.2]) = ps.map fun r => (r.1.toNat, r.2.toNat) := by
  have hcount : field (byteOf ps.length :: ps.flatMap fun r => [r.1, r.2]) 0 = ps.length := toNat_byteOf h
  rw [pairsOf, hcount]
  refine (congrArg _ (records_flatMap ps)).trans ?_
  rw [List.map_map]
  rfl

theorem pairOk_iff (p : Nat × Nat) : pairOk p = true ↔ (1 ≤ p.1 ∧ p.1 ≤ 26) ∧ (1 ≤ p.2 ∧ p.2 ≤ 26) ∧ p.1 ≠ p.2 := by
  simp [pairOk, isLetter, and_assoc]

/-- SET_PAIRS accepted: the checks hold, and the list is made anew from the pairs carried. -/
theorem execSetPairs_accepted {s u : State} {tag : Byte} {ps : List (Byte × Byte)}
    (h : Takes s ⟨0x14, tag, byteOf ps.length :: ps.flatMap fun r => [r.1, r.2]⟩ u) (hop : s.op ≠ .doze)
    (hidle : s.cycle.lesson.current = false) (hcount : ps.length ≤ 16)
    (hpairs : ∀ r ∈ ps, 1 ≤ r.1.toNat ∧ r.1.toNat ≤ 26 ∧ 1 ≤ r.2.toNat ∧ r.2.toNat ≤ 26 ∧ r.1 ≠ r.2) :
    let held := addPairs [] (ps.map fun r => (r.1.toNat, r.2.toNat))
    exec (.setPairs tag (byteOf ps.length :: ps.flatMap fun r => [r.1, r.2])) s =
      .next (State.replied { u with judge := { s.judge with pairs := held } } 0x94 tag .ok [byteOf held.length]) := by
  have hread := pairsOf_run (ps := ps) (by omega)
  have hfield : field (byteOf ps.length :: ps.flatMap fun r => [r.1, r.2]) 0 = ps.length := toNat_byteOf (by omega)
  have hsize : pairsSize (byteOf ps.length :: ps.flatMap fun r => [r.1, r.2]) = true := by
    refine decide_eq_true ?_
    rw [hfield, List.length_cons, length_keyRun]
    exact ⟨by omega, hcount, by omega⟩
  have hvalues : (pairsOf (byteOf ps.length :: ps.flatMap fun r => [r.1, r.2])).all pairOk = true := by
    rw [hread, List.all_map, List.all_eq_true]
    intro r hr
    obtain ⟨hlow, hhigh, hlow', hhigh', hne⟩ := hpairs r hr
    exact (pairOk_iff _).mpr ⟨⟨hlow, hhigh⟩, ⟨hlow', hhigh'⟩, fun heq => hne (BitVec.eq_of_toNat_eq heq)⟩
  refine (lessonSetting_accepted (by decide) hsize hvalues h hop hidle).trans ?_
  rw [hread, h.judge]
  rfl

/-! ### The letter map (08 R147) -/

theorem Takes.voice {s u : State} {f : HostFrame} (h : Takes s f u) : u.voice = s.voice :=
  h.sameBut.2.2 .voice (by simp)

theorem isSome_mapModeOf {n : Nat} (h : n ≤ 3) : (mapModeOf n).isSome = true := by
  match n, h with
  | 0, _ => rfl
  | 1, _ => rfl
  | 2, _ => rfl
  | 3, _ => rfl

/-- The map entries of a payload of whole entries are read one by one. -/
theorem mapEntriesOf_run (first : Byte) {es : List (List Byte)} (h : ∀ e ∈ es, e.length = 8) :
    mapEntriesOf (first :: es.flatten) = allSome mapEntryOf es := by
  have hcount : ((first :: es.flatten).length - 1) / 8 = es.length := by
    rw [List.length_cons, length_flatten_records h]
    omega
  rw [mapEntriesOf, hcount]
  exact congrArg _ (records_flatten h)

/-- SET_LETTERS accepted: the checks hold, and the run read is spliced into the map. -/
theorem execSetLetters_accepted {s u : State} {tag first : Byte} {es : List (List Byte)} {run : List MapEntry}
    (h : Takes s ⟨0x12, tag, first :: es.flatten⟩ u) (hop : s.op ≠ .doze) (hidle : s.cycle.lesson.current = false)
    (hne : es ≠ []) (hlow : 1 ≤ first.toNat) (hlast : first.toNat + es.length ≤ 29) (hwhole : ∀ e ∈ es, e.length = 8)
    (hread : allSome mapEntryOf es = some run) :
    exec (.setLetters tag (first :: es.flatten)) s =
      .next (State.replied { u with voice := { s.voice with
        letterMap := splice s.voice.letterMap (first.toNat - 1) run } } 0x92 tag .ok []) := by
  have hpos : 1 ≤ es.length := List.length_pos_iff.mpr hne
  have hlength : (first :: es.flatten).length = 8 * es.length + 1 := by
    rw [List.length_cons, length_flatten_records hwhole]
  have hentries := (mapEntriesOf_run first hwhole).trans hread
  have hfirst : field (first :: es.flatten) 0 = first.toNat := rfl
  have hsize : lettersSize (first :: es.flatten) = true := decide_eq_true (by rw [hlength]; omega)
  have hvalues : lettersValues (first :: es.flatten) = true := by
    rw [lettersValues, hentries, hfirst, hlength, isSymbol, decide_eq_true (by omega), decide_eq_true (by omega)]
    rfl
  refine (lessonSetting_accepted (by decide) hsize hvalues h hop hidle).trans ?_
  rw [hentries, hfirst, h.voice]
  rfl

/-- Settles O27: the list is that of the pairs added one by one, and the map that of the run spliced in. -/
theorem pairsAndLettersAreStored : Obligations.PairsAndLettersAreStored := by
  constructor
  · intro s u tag ps h hop hidle hcount hpairs
    obtain ⟨new, hsub, hnew⟩ := addPairs_eq_append [] (ps.map fun r => (r.1.toNat, r.2.toNat))
    refine ⟨_, execSetPairs_accepted h hop hidle hcount hpairs, hnew ▸ hsub, ?_, fun a b => ?_⟩
    · exact (pairwise_addPairs _ List.Pairwise.nil).imp fun hno => mt (samePair_iff _ _).mpr hno
    · rw [paired_addPairs, show paired [] a b = false from rfl, Bool.false_or, paired_iff]
      simp only [List.mem_map, samePair_iff]
      constructor
      · rintro ⟨p, ⟨r, hr, rfl⟩, hsame⟩
        exact ⟨r, hr, by omega⟩
      · rintro ⟨r, hr, hsame⟩
        exact ⟨_, ⟨r, hr, rfl⟩, by omega⟩
  · intro s u tag first es h hop hidle hmap hne hlow hlast hes
    have hsome : (allSome mapEntryOf es).isSome = true := (isSome_allSome _ _).mpr fun e he => by
      rw [mapEntryOf, Option.isSome_map]
      exact isSome_mapModeOf (hes e he).2
    obtain ⟨run, hread⟩ := Option.isSome_iff_exists.mp hsome
    have hrun : run.length = es.length := length_of_allSome hread
    have hfits : first.toNat - 1 + run.length ≤ s.voice.letterMap.length := by omega
    refine ⟨_, execSetLetters_accepted h hop hidle hne hlow hlast (fun e he => (hes e he).1) hread, ?_, fun i _ => ?_⟩
    · rw [length_splice hfits, hmap]
    · rw [getElem?_splice hfits, getElem?_of_allSome hread, hrun]
      refine ite_congr (propext (by omega)) (fun hin => ?_) fun _ => rfl
      rw [show i - (first.toNat - 1) = i + 1 - first.toNat by omega]
      rfl

end Sys2Proof.Machine
end

section
/-! PROOFS. The completion of judging (O35): the tallies, the results record and the feedback by their cases, and the step as
one chain: the Judge, the record and the Attempt, the arrival of the feedback, the phase, the notice. -/

namespace Sys2Proof.Machine

/-- The tallies after a completion (04 R79), each within its top. -/
theorem Judge.tally_eq (j : Judge) (v : Judgement) :
    let counted := j.windowStart ≤ v.wordIndex ∧ v.wordIndex < j.windowStart + j.windowLength
    j.tally v = { j with
      attemptsJudged := if counted then min 65535 (j.attemptsJudged + 1) else j.attemptsJudged
      letterErrors := if counted then min 65535 (j.letterErrors + v.letterErrors) else j.letterErrors
      exactCount := if counted ∧ v.verdict = .exact then min 65535 (j.exactCount + 1) else j.exactCount } := by
  intro counted
  by_cases h : counted
  · have hin : j.inWindow v.wordIndex = true := decide_eq_true h
    simp only [Judge.tally, hin, h, if_true, true_and]
    rfl
  · have hout : j.inWindow v.wordIndex = false := decide_eq_false h
    simp [Judge.tally, hout, h]

/-- The results record after a completion (03 R56). -/
theorem ResultRecord.score_eq (r : ResultRecord) (v : Judgement) (tries : Nat) :
    r.score v tries = { r with
      last := v.score, best := max r.best v.score
      state := if v.verdict = .exact then .exact else if r.tries < tries then .opened else .missed } := by
  cases h : v.verdict <;> simp [ResultRecord.score, h]

/-- The feedback of a completion (03 R56, 05 R96, R97); the spell-back comes with the last try. -/
theorem State.feedback_eq (s : State) (v : Verdict) (triesLeft : Bool) :
    s.feedback v triesLeft =
      if v = .exact then partUtterance .verdict .feedback [s.phraseItem 1, .word]
      else if ¬(v ≠ .exact ∧ triesLeft = true) then
        partUtterance .verdict .spellback ([s.phraseItem 4, .word] ++ s.target.map Item.name ++ [.word])
      else if v = .close then partUtterance .verdict .feedback [s.phraseItem 2, .word]
      else partUtterance .verdict .feedback [s.phraseItem 3, .word] := by
  cases v <;> cases triesLeft <;> rfl

theorem State.feedback_source (s : State) (v : Verdict) (triesLeft : Bool) : (s.feedback v triesLeft).source = .verdict := by
  cases v <;> cases triesLeft <;> rfl

/-- The result recorded, and the Attempt cleared where a try is left (03 R56): what a completion does before its feedback. -/
def State.scored (s : State) (v : Judgement) : State :=
  let a := s.mapResult s.cycle.index fun r => r.score v s.cycle.triesPerWord
  if v.verdict ≠ .exact ∧ s.currentResult.tries < s.cycle.triesPerWord then a.clearAttempt else a

theorem State.scored_intake (s : State) (v : Judgement) : (s.scored v).intake =
    if v.verdict ≠ .exact ∧ s.currentResult.tries < s.cycle.triesPerWord then
      { s.intake with attempt := [], attemptFull := false, letterHold := false }
    else s.intake := by
  unfold State.scored
  split <;> rfl

/-- Nothing but the record and the Attempt changes. -/
theorem State.scored_eq (s : State) (v : Judgement) : s.scored v = { s with
    cycle := { s.cycle with
      results := s.cycle.results.modify s.cycle.index fun r => r.score v s.cycle.triesPerWord }
    intake := (s.scored v).intake } := by
  unfold State.scored
  split <;> rfl

/-- The controller's part of a completion: the feedback arrives, and the phase is FEEDBACK. -/
theorem State.judged_eq (s : State) (v : Judgement) :
    let a := (s.scored v).arrive (s.feedback v.verdict (decide (s.currentResult.tries < s.cycle.triesPerWord)))
    s.judged v = a.putCycle { a.cycle with phase := .feedback } := by
  unfold State.judged State.scored
  simp only [decide_eq_true_eq]
  split <;> rfl

theorem State.sameBut_scored (s : State) (v : Judgement) : SameBut [.cycle, .intake] s (s.scored v) := by
  rw [s.scored_eq v]
  exact ⟨rfl, rfl, fun b hb => by cases b <;> first | rfl | simp at hb⟩

theorem State.sameBut_raise (s : State) (n : Notice) : SameBut [.link] s (s.raise n) :=
  ⟨rfl, rfl, fun b hb => by cases b <;> first | rfl | simp at hb⟩

/-- The test does not look at the Link Port. -/
theorem CutInTested.raise {s t : State} (h : CutInTested s t) (n : Notice) : CutInTested s (t.raise n) :=
  Eq.trans h (State.cutInTest_arbiter_congr rfl rfl rfl rfl rfl)

/-- The controller's part of a completion, block by block (03 R56). -/
theorem State.judged_spec (s : State) (v : Judgement) :
    let feedback := s.feedback v.verdict (decide (s.currentResult.tries < s.cycle.triesPerWord))
    SameBut [.cycle, .intake, .sources, .arbiter] s (s.judged v) ∧
    (s.judged v).cycle = { s.cycle with
      phase := .feedback, results := s.cycle.results.modify s.cycle.index fun r => r.score v s.cycle.triesPerWord } ∧
    (s.judged v).intake = (s.scored v).intake ∧ (s.judged v).sources.phrases = s.sources.phrases ∧
    (∀ src, src ≠ .verdict → (s.judged v).place src = s.place src) ∧
    (s.judged v).place .verdict =
      { s.place .verdict with pending := (s.place .verdict).pending ++ [feedback] } ∧
    CutInTested s (s.judged v) := by
  intro feedback
  have hsource : feedback.source = .verdict := s.feedback_source _ _
  have hcycle : (s.scored v).cycle = { s.cycle with
      results := s.cycle.results.modify s.cycle.index fun r => r.score v s.cycle.triesPerWord } := by
    rw [s.scored_eq v]
  have hsources : (s.scored v).sources = s.sources := (s.sameBut_scored v).2.2 .sources (by simp)
  have harbiter : (s.scored v).arbiter = s.arbiter := (s.sameBut_scored v).2.2 .arbiter (by simp)
  have hplace : ∀ src, (s.scored v).place src = s.place src := fun src => by rw [State.place, hsources]; rfl
  rw [s.judged_eq v]
  refine ⟨?_, ?_, ?_, ?_, fun src hne => ?_, ?_, ?_⟩
  · exact (((s.sameBut_scored v).trans (State.sameBut_arrive _ _)).trans (State.sameBut_putCycle _ _)).mono (by decide)
  · rw [State.putCycle_cycle, State.arrive_cycle, hcycle]
  · exact State.arrive_intake _ _
  · exact (State.arrive_phrases _ _).trans (congrArg Sources.phrases hsources)
  · rw [State.place_putCycle, State.place_arrive_ne _ _ (hsource ▸ hne), hplace]
  · have hself := State.place_arrive_self (s.scored v) feedback
    rw [hsource, hplace] at hself
    exact hself
  · exact CutInTested.putCycle (.of_cutInTest harbiter) rfl

/-- Settles O35: the Judge's own part, the controller's, and the notice. -/
theorem judgingCompletes : Obligations.JudgingCompletes := by
  intro s r hreset hworking v retry counted
  let a := s.putJudge { s.judge.tally v with last := some v, working := none }
  obtain ⟨hsame, hcycle, hintake, hphrases, hplaces, hverdict, htested⟩ := a.judged_spec v
  refine ⟨(a.judged v).raise (.wordJudged v.report 1), ?_, ?_, ?_, ?_, ?_, hphrases, hplaces, ?_, ?_,
    CutInTested.raise (s := s) htested _⟩
  · rw [exec, execJudgingComplete, State.occurs_of _ _ hreset (Option.isSome_of_eq_some hworking), hworking]
  · exact (((s.sameBut_putJudge _).trans hsame).trans (State.sameBut_raise _ _)).mono (by decide)
  · refine (hsame.2.2 .judge (by simp)).trans ?_
    exact congrArg (fun j : Judge => { j with last := some v, working := none }) (s.judge.tally_eq v)
  · refine hcycle.trans ?_
    simp only [ResultRecord.score_eq]
    rfl
  · exact hintake.trans (a.scored_intake v)
  · rw [State.feedback_eq] at hverdict
    simp only [decide_eq_true_eq] at hverdict
    exact hverdict
  · exact congrArg (Link.raise · _) (hsame.2.2 .link (by simp))

end Sys2Proof.Machine
end

section
/-! PROOFS. Every step keeps the speech laws (O57). The two laws read five values of the state (`SpeechView`): the operating
state, the places, the source that is sounding, the output code and AMP. The lemmas of `SpeechView.Lawful` say which changes of
them are lawful; each shared operation leaves the five or makes one of these changes, and each row is a chain of operations. -/

namespace Sys2Proof.Machine

/-! ### What the laws read -/

/-- The values that the place law and the speaker law read; `speaker` is the source of the running utterance. -/
structure SpeechView where
  op : OpState
  places : PerSource Place
  speaker : Option Source
  output : Nat
  amp : Amp

def State.speechView (s : State) : SpeechView where
  op := s.op
  places := s.sources.places
  speaker := s.arbiter.running.map fun r => r.utterance.source
  output := s.voice.output
  amp := s.voice.amp

/-- Every utterance of the place is of this source (05 R85). -/
structure Place.OwnedBy (p : Place) (src : Source) : Prop where
  pending : ∀ u ∈ p.pending, u.source = src
  backup : ∀ u ∈ p.backup, u.source = src

/-- The two laws of the values they read. -/
structure SpeechView.Lawful (v : SpeechView) : Prop where
  owned : ∀ src, (v.places.get src).OwnedBy src
  backupFree : ∀ src, v.speaker = some src → (v.places.get src).backup = none
  code : v.output ≤ 1023
  silent : v.speaker = none → v.output = 512
  amp : v.speaker.isSome = true ↔ v.amp = .active
  off : v.op ≠ .ready → v.speaker = none ∧ v.amp = .inactive

/-- Utterances stand in their sources' places, and AMP and the output code go with the running place. -/
def State.SpeechLawful (s : State) : Prop := s.speechView.Lawful

theorem State.sounding_iff (s : State) (src : Source) : s.sounding src = true ↔ s.speechView.speaker = some src := by
  unfold State.sounding State.speechView
  cases s.arbiter.running <;> simp

theorem State.placeLawful_iff (s : State) (src : Source) :
    s.placeLawful src = true ↔
      (s.place src).OwnedBy src ∧ (s.speechView.speaker = some src → (s.place src).backup = none) := by
  rw [← s.sounding_iff src]
  unfold State.placeLawful
  simp only [Bool.and_eq_true, List.all_eq_true, Option.all_eq_true, decide_eq_true_eq, Bool.or_eq_true,
    Bool.not_eq_true', Option.isNone_iff_eq_none]
  constructor
  · rintro ⟨⟨hpending, hbackup⟩, hfree⟩
    exact ⟨⟨hpending, hbackup⟩, fun hsounding => hfree.resolve_left (by simp [hsounding])⟩
  · rintro ⟨⟨hpending, hbackup⟩, hfree⟩
    refine ⟨⟨hpending, hbackup⟩, ?_⟩
    cases hsounding : s.sounding src with
    | false => exact .inl rfl
    | true => exact .inr (hfree hsounding)

theorem State.speechLawful_iff (s : State) : s.SpeechLawful ↔ PlaceLaw s ∧ SpeakerLaw s := by
  have hnone : s.speechView.speaker = none ↔ s.arbiter.running = none := Option.map_eq_none_iff
  have hsome : s.speechView.speaker.isSome = s.arbiter.running.isSome := Option.isSome_map
  constructor
  · rintro ⟨howned, hfree, hcode, hsilent, hamp, hoff⟩
    refine ⟨fun src _ => (s.placeLawful_iff src).mpr ⟨howned src, hfree src⟩, hcode, hsilent ∘ hnone.mpr, ?_, ?_⟩
    · exact hsome ▸ hamp
    · exact fun hop => (hoff hop).imp_left hnone.mp
  · rintro ⟨hplaces, hcode, hsilent, hamp, hoff⟩
    have hplace := fun src => (s.placeLawful_iff src).mp (hplaces src src.mem_tieOrder)
    refine ⟨fun src => (hplace src).1, fun src => (hplace src).2, hcode, hsilent ∘ hnone.mp, ?_, ?_⟩
    · exact hsome ▸ hamp
    · exact fun hop => (hoff hop).imp_left hnone.mpr

/-! ### The lawful changes -/

theorem Place.OwnedBy.empty (src : Source) : (⟨[], none⟩ : Place).OwnedBy src := ⟨nofun, nofun⟩

namespace SpeechView.Lawful

variable {v : SpeechView}

/-- A place is replaced; the backup of the source that sounds stays empty (06 R114). -/
theorem setPlace (h : v.Lawful) {src : Source} {p : Place} (hp : p.OwnedBy src)
    (hfree : v.speaker = some src → p.backup = none) : ({ v with places := v.places.set src p } : SpeechView).Lawful := by
  refine { h with owned := fun r => ?_, backupFree := fun r hr => ?_ }
  · by_cases hsrc : r = src
    · subst hsrc
      simpa using hp
    · simpa [PerSource.get_set_ne _ _ hsrc] using h.owned r
  · by_cases hsrc : r = src
    · subst hsrc
      simpa using hfree hr
    · simpa [PerSource.get_set_ne _ _ hsrc] using h.backupFree r hr

theorem sweepLesson (h : v.Lawful) : ({ v with places := v.places.sweepLesson } : SpeechView).Lawful := by
  refine { h with owned := fun src => ?_, backupFree := fun src hsrc => ?_ }
  · rw [PerSource.get_sweepLesson]
    split
    · exact .empty src
    · exact h.owned src
  · rw [PerSource.get_sweepLesson]
    split
    · rfl
    · exact h.backupFree src hsrc

/-- In READY an utterance of a source with an empty backup enters the running place, and AMP becomes ACTIVE (08 R145). -/
theorem enter (h : v.Lawful) (hop : v.op = .ready) {src : Source} (hfree : (v.places.get src).backup = none) :
    ({ v with speaker := some src, amp := .active } : SpeechView).Lawful where
  owned := h.owned
  backupFree r hr := by cases hr; exact hfree
  code := h.code
  silent := nofun
  amp := by simp
  off hno := absurd hop hno

/-- The running place empties (08 R143, R145). -/
theorem vacate (h : v.Lawful) : ({ v with speaker := none, output := 512, amp := v.amp.release } : SpeechView).Lawful where
  owned := h.owned
  backupFree := nofun
  code := (by decide : 512 ≤ 1023)
  silent _ := rfl
  amp := by cases v.amp <;> simp [Amp.release]
  off hop := ⟨rfl, by simp [(h.off hop).2, Amp.release]⟩

/-- The silent part is switched off, in any operating state (08 R148). -/
theorem switchOff (h : v.Lawful) (hsilent : v.speaker = none) (op : OpState) :
    ({ v with op := op, output := 512, amp := .inactive } : SpeechView).Lawful where
  owned := h.owned
  backupFree := h.backupFree
  code := (by decide : 512 ≤ 1023)
  silent _ := rfl
  amp := by simp [hsilent]
  off _ := ⟨hsilent, rfl⟩

/-- READY asks nothing of the speaker. -/
theorem enterReady (h : v.Lawful) : ({ v with op := .ready } : SpeechView).Lawful :=
  { h with off := fun hno => absurd rfl hno }

/-- While an utterance sounds the output is any code. -/
theorem setOutput (h : v.Lawful) {n : Nat} (hn : n ≤ 1023) (hsilent : v.speaker = none → n = 512) :
    ({ v with output := n } : SpeechView).Lawful :=
  { h with code := hn, silent := hsilent }

/-- AMP moves between HOLDING and INACTIVE, and from INACTIVE nowhere. -/
theorem setAmp (h : v.Lawful) {a : Amp} (hactive : a = .active ↔ v.amp = .active)
    (hinactive : v.amp = .inactive → a = .inactive) : ({ v with amp := a } : SpeechView).Lawful :=
  { h with amp := h.amp.trans hactive.symm, off := fun hop => (h.off hop).imp_right hinactive }

end SpeechView.Lawful

/-! ### Operations that leave the five values -/

/-- A change of the running utterance that keeps its source. -/
theorem State.speechView_mapRunning (s : State) {f : Running → Running}
    (hf : ∀ r, (f r).utterance.source = r.utterance.source) : (s.mapRunning f).speechView = s.speechView := by
  simp [State.speechView, State.mapRunning_eq, Function.comp_def, hf]

theorem Running.source_cutDiscard (r : Running) {k : FadeKind} (hk : k ≠ .restore) :
    (r.cutDiscard k).utterance.source = r.utterance.source := by
  rw [r.cutDiscard_utterance k hk]

theorem Running.source_sweep (r : Running) : r.sweep.utterance.source = r.utterance.source := by
  rw [r.sweep_eq]
  split <;> rfl

theorem Running.source_snap (r : Running) : r.snap.utterance.source = r.utterance.source := by
  unfold Running.snap
  split
  · exact r.source_cutDiscard (by simp)
  · rfl

theorem Running.source_pauseCut (r : Running) : r.pauseCut.utterance.source = r.utterance.source := by
  unfold Running.pauseCut
  split
  · by_cases hplaying : r.state = .playing
    · rw [r.cutRestore_playing hplaying]
    · rw [r.cutRestore_fading hplaying]
  · rfl

@[simp] theorem State.speechView_cutInTest (s : State) : s.cutInTest.speechView = s.speechView := by
  rcases s.cutInTest_cases with e | ⟨r, hr, -, -, e⟩ <;> rw [e]
  simp [State.speechView, hr]

@[simp] theorem State.speechView_cueLoad (s : State) (n : Nat) : (s.cueLoad n).speechView = s.speechView :=
  State.speechView_cutInTest _

@[simp] theorem State.speechView_cueStop (s : State) : s.cueStop.speechView = s.speechView :=
  State.speechView_cutInTest _

@[simp] theorem State.speechView_promptStarted (s : State) : s.promptStarted.speechView = s.speechView := by
  unfold State.promptStarted
  split
  · exact State.speechView_cueLoad _ 0
  · rfl

@[simp] theorem State.speechView_offer (s : State) (e : KeyEvent) : (s.offer e).speechView = s.speechView := by
  unfold State.offer
  split
  · rfl
  · split <;> rfl

@[simp] theorem State.speechView_receive (s : State) (b : Byte) : (s.receive b).speechView = s.speechView := by
  unfold State.receive State.offerFrame
  dsimp only
  split
  · rfl
  · split
    · rfl
    · split <;> rfl
  · rfl

@[simp] theorem State.speechView_transmitted (s : State) (f : OutFrame) : (s.transmitted f).speechView = s.speechView := by
  unfold State.transmitted
  split <;> rfl

@[simp] theorem State.speechView_reach (s : State) (index : Nat) (previous : Option ItemClass) (items : List Item) :
    (s.reach index previous items).1.speechView = s.speechView := by
  obtain ⟨spi, link, e, -⟩ := State.reach_eq index previous items s
  rw [e]
  rfl

@[simp] theorem State.speechView_setCursor (s : State) (c : Cursor) : (s.setCursor c).speechView = s.speechView :=
  s.speechView_mapRunning fun _ => rfl

@[simp] theorem State.speechView_startReports (s : State) (u : Utterance) (fromPending : Bool) :
    (s.startReports u fromPending).speechView = s.speechView := by
  unfold State.startReports
  extract_lets a
  have ha : a.speechView = s.speechView := by
    unfold a
    split
    · exact s.speechView_promptStarted
    · rfl
  split
  · exact ha
  · exact ha

/-! ### FLUSH as one replacement and a chain of raises (05 R102, R103) -/

/-- The reports of the removed utterances are the raises for those with notify yes, in order. -/
theorem State.foldl_reportFlushed (us : List Utterance) (s : State) :
    us.foldl State.reportFlushed s = s.putLink
      ((us.filter fun x => x.notify).foldl (fun l x => l.raise (.said false [⟨x.tag, .flushed⟩])) s.link) := by
  induction us generalizing s with
  | nil => rfl
  | cons x rest ih =>
    rw [List.foldl_cons, ih, State.reportFlushed]
    cases hnotify : x.notify with
    | false => rw [List.filter_cons_of_neg (by simp [hnotify])]; rfl
    | true => rw [List.filter_cons_of_pos hnotify]; rfl

theorem State.flushHost_eq (s : State) :
    s.flushHost = ((s.putPlace .now ⟨[], none⟩).putPlace .queue ⟨[], none⟩).putLink
      ((s.flushed.filter fun x => x.notify).foldl (fun l x => l.raise (.said false [⟨x.tag, .flushed⟩])) s.link) :=
  State.foldl_reportFlushed _ _

/-! ### AMP, codes and lists -/

theorem Amp.tick_eq_active (a : Amp) : a.tick = .active ↔ a = .active := by
  cases a <;> simp [Amp.tick]

theorem Amp.tick_eq_inactive (a : Amp) : a.tick = .inactive ↔ a = .inactive := by
  cases a <;> simp [Amp.tick]

/-- A held value offset to the code range is a 10-bit code (08 R143). -/
theorem codeOf_le (x : Int) : codeOf x ≤ 1023 := by
  unfold codeOf
  omega

theorem mem_of_mem_withdrawNewest {sym : Nat} {u : Utterance} {us : List Utterance} (h : u ∈ withdrawNewest sym us) :
    u ∈ us := by
  induction us with
  | nil => exact h
  | cons v rest ih =>
    unfold withdrawNewest at h
    split at h
    · exact (List.mem_cons.mp h).elim (fun e => e ▸ List.mem_cons_self) fun hr => List.mem_cons_of_mem _ (ih hr)
    · split at h
      · exact List.mem_cons_of_mem _ h
      · exact h

/-- What a source hands over is its own, and it leaves its backup empty (06 R108). -/
theorem Place.OwnedBy.handOver {p rest : Place} {src : Source} (h : p.OwnedBy src) {u : Utterance} {fromPending : Bool}
    (hh : p.handOver = some (u, fromPending, rest)) : u.source = src ∧ rest.OwnedBy src ∧ rest.backup = none := by
  unfold Place.handOver at hh
  split at hh
  · next v _ hbackup =>
    cases hh
    exact ⟨h.backup _ hbackup, ⟨h.pending, nofun⟩, rfl⟩
  · next v us hbackup hpending =>
    cases hh
    refine ⟨h.pending _ (by simp [hpending]), ⟨fun w hw => h.pending w (by simp [hpending, hw]), h.backup⟩, hbackup⟩
  · cases hh

/-- A source is chosen in READY alone (06 R107). -/
theorem State.ready_of_choice {s : State} (h : s.choice.isSome = true) : s.op = .ready := by
  refine Decidable.byContradiction fun hop => ?_
  have hnobody : tieOrder.filter s.participates = [] :=
    List.filter_eq_nil_iff.mpr fun src _ => by simp [State.participates, State.eligible, hop]
  rw [State.choice, hnobody] at h
  cases h

/-! ### The shared operations keep the laws -/

namespace State.SpeechLawful

variable {s t : State}

theorem of_view {v : SpeechView} (e : t.speechView = v) (h : v.Lawful) : t.SpeechLawful := by
  rw [State.SpeechLawful, e]
  exact h

/-- An operation that leaves the five values. -/
theorem same (h : s.SpeechLawful) (e : t.speechView = s.speechView) : t.SpeechLawful := of_view e h

theorem putLink (h : s.SpeechLawful) (l : Link) : (s.putLink l).SpeechLawful := h

theorem mapRunning (h : s.SpeechLawful) {f : Running → Running} (hf : ∀ r, (f r).utterance.source = r.utterance.source) :
    (s.mapRunning f).SpeechLawful :=
  h.same (s.speechView_mapRunning hf)

theorem cutInTest (h : s.SpeechLawful) : s.cutInTest.SpeechLawful := h.same s.speechView_cutInTest

theorem cueLoad (h : s.SpeechLawful) (n : Nat) : (s.cueLoad n).SpeechLawful := h.same (s.speechView_cueLoad n)

theorem cueStop (h : s.SpeechLawful) : s.cueStop.SpeechLawful := h.same s.speechView_cueStop

theorem place (h : s.SpeechLawful) (src : Source) : (s.place src).OwnedBy src := h.owned src

theorem putPlace (h : s.SpeechLawful) {src : Source} {p : Place} (hp : p.OwnedBy src)
    (hfree : s.speechView.speaker = some src → p.backup = none) : (s.putPlace src p).SpeechLawful :=
  SpeechView.Lawful.setPlace h hp hfree

/-- A source's list changes and its backup stays. -/
theorem setPending (h : s.SpeechLawful) {src : Source} {us : List Utterance} (hus : ∀ u ∈ us, u.source = src) :
    (s.putPlace src { s.place src with pending := us }).SpeechLawful :=
  h.putPlace ⟨hus, (h.place src).backup⟩ (h.backupFree src)

theorem clearPlace (h : s.SpeechLawful) (src : Source) : (s.putPlace src ⟨[], none⟩).SpeechLawful :=
  h.putPlace (.empty src) fun _ => rfl

/-- An utterance arrives at its own source's place. -/
theorem arrive (h : s.SpeechLawful) (u : Utterance) : (s.arrive u).SpeechLawful := by
  refine (h.setPending fun w hw => ?_).cutInTest
  rcases List.mem_append.mp hw with hold | hnew
  · exact (h.place u.source).pending w hold
  · rw [List.mem_singleton.mp hnew]

theorem sweep (h : s.SpeechLawful) : s.sweep.SpeechLawful := by
  have hplaces : (s.putSources { s.sources with places := s.sources.places.sweepLesson }).SpeechLawful :=
    SpeechView.Lawful.sweepLesson h
  exact hplaces.mapRunning Running.source_sweep

theorem wordBegin (h : s.SpeechLawful) (i : Nat) : (s.wordBegin i).SpeechLawful := by
  unfold State.wordBegin
  extract_lets cycle indexed stopped timer fresh swept prompted
  have hstopped : stopped.SpeechLawful := cueStop (s := indexed) h
  have hswept : swept.SpeechLawful := sweep (s := fresh.clearAttempt) hstopped
  exact hswept.arrive _

theorem lessonFinish (h : s.SpeechLawful) : s.lessonFinish.SpeechLawful := h.sweep.cueStop

theorem advance (h : s.SpeechLawful) : s.advance.SpeechLawful := by
  unfold State.advance
  split
  · exact h.wordBegin _
  · exact h.lessonFinish

theorem feedbackEnded (h : s.SpeechLawful) : s.feedbackEnded.SpeechLawful := by
  have hheld :
      (if s.intake.settings.endHold then s.putCycle { s.cycle with phase := .held } else s.advance).SpeechLawful := by
    split
    · exact h
    · exact h.advance
  unfold State.feedbackEnded
  cases s.currentResult.state with
  | opened => exact cueLoad (s := s.putCycle { s.cycle with phase := .answering }) h 0
  | exact => exact hheld
  | missed => exact hheld
  | unseen => exact h
  | skipped => exact h

theorem vacate (h : s.SpeechLawful) : s.vacate.SpeechLawful := SpeechView.Lawful.vacate h

theorem endRunning (h : s.SpeechLawful) (u : Utterance) (e : EndKind) : (s.endRunning u e).SpeechLawful := by
  have hvacated := h.vacate
  unfold State.endRunning State.reportEnd State.lessonEndReport
  split
  · split
    · exact hvacated.feedbackEnded
    · exact hvacated
  · split
    · exact hvacated
    · exact hvacated

theorem judgingBegin (h : s.SpeechLawful) : s.judgingBegin.SpeechLawful := by
  have hverdict := h.place .verdict
  have hdropped : (s.putPlace .verdict (s.place .verdict).dropAsides).SpeechLawful := by
    refine h.putPlace ⟨fun u hu => ?_, fun u hu => ?_⟩ fun hsounding => ?_
    · exact hverdict.pending u (List.mem_filter.mp hu).1
    · exact hverdict.backup u (Option.mem_filter_iff.mp hu).1
    · have hfree : (s.place .verdict).backup = none := h.backupFree .verdict hsounding
      simp [Place.dropAsides, hfree]
  exact hdropped.same (State.speechView_cueStop _)

theorem hearRequest (h : s.SpeechLawful) : s.hearRequest.SpeechLawful := by
  unfold State.hearRequest
  split
  · exact h.arrive _
  · exact h

theorem pinReset (s : State) : s.pinReset.SpeechLawful := by
  show State.reset.SpeechLawful
  rw [State.speechLawful_iff]
  decide

theorem clearRuntime (s : State) (op : OpState) : (s.clearRuntime.putOp op).SpeechLawful where
  owned src := by cases src <;> exact .empty _
  backupFree := nofun
  code := (by decide : 512 ≤ 1023)
  silent _ := rfl
  amp := by simp [State.speechView, State.clearRuntime]
  off _ := ⟨rfl, rfl⟩

/-- AMP and the timers as 125 us pass: HOLDING stays HOLDING (log 4). -/
theorem passTime (h : s.SpeechLawful) : s.passTime.SpeechLawful := by
  have htick : (s.putVoice { s.voice with amp := s.voice.amp.tick }).SpeechLawful :=
    SpeechView.Lawful.setAmp h s.voice.amp.tick_eq_active s.voice.amp.tick_eq_inactive.mpr
  unfold State.passTime
  split
  · exact h
  · dsimp only
    split
    · exact htick
    · exact htick

/-! ### Commands and their checks -/

theorem takeFrame (h : s.SpeechLawful) {f : HostFrame} (ht : s.takeFrame f = some t) : t.SpeechLawful :=
  State.takeFrame_keeps (fun _ l hu => hu.putLink l) h ht

theorem command (h : s.SpeechLawful) {k tag : Byte} {p : List Byte} {owner : State → Answer}
    (ho : ∀ u : State, u.SpeechLawful → (owner u).state.SpeechLawful) :
    After State.SpeechLawful (s.command k tag p owner) :=
  After.command (fun _ l hu => hu.putLink l) h ho

theorem check (h : s.SpeechLawful) {cond : Bool} {r : ResultCode} {k : Answer} (hk : k.state.SpeechLawful) :
    (s.check cond r k).state.SpeechLawful :=
  State.check_keeps h fun _ => hk

theorem lessonSetting (h : s.SpeechLawful) {sizeOk valuesOk : Bool} {k : Answer} (hk : k.state.SpeechLawful) :
    (s.lessonSetting sizeOk valuesOk k).state.SpeechLawful :=
  h.check (h.check (h.check (h.check hk)))

theorem readyBare (h : s.SpeechLawful) {p : List Byte} {k : Answer} (hk : k.state.SpeechLawful) :
    (s.readyBare p k).state.SpeechLawful :=
  h.check (h.check hk)

theorem lessonCommand (h : s.SpeechLawful) {p : List Byte} {n : Nat} {lessonOk : Bool} {k : Answer}
    (hk : k.state.SpeechLawful) : (s.lessonCommand p n lessonOk k).state.SpeechLawful :=
  h.check (h.check (h.check hk))

theorem sayChecks (h : s.SpeechLawful) {p : List Byte} {room : Bool} {r : ResultCode} {k : Answer}
    (hk : k.state.SpeechLawful) : (s.sayChecks p room r k).state.SpeechLawful :=
  h.check (h.check (h.check (h.check hk)))

theorem releaseCommand (h : s.SpeechLawful) {target : Nat} {tag : Byte} {p : List Byte} {owner : State → Answer}
    (ho : ∀ u : State, u.SpeechLawful → (owner u).state.SpeechLawful) :
    After State.SpeechLawful (s.releaseCommand target tag p owner) := by
  unfold State.releaseCommand
  split
  · exact h.command fun u hu => hu.check (hu.check (hu.check (ho u hu)))
  · exact .next h

theorem occurs (h : s.SpeechLawful) {cond : Bool} {f : State → State} (hf : cond = true → (f s).SpeechLawful) :
    After State.SpeechLawful (s.occurs cond f) :=
  After.occurs h hf

/-! ### Operating State Control (10) -/

theorem execResetnRelease (h : s.SpeechLawful) : After State.SpeechLawful (execResetnRelease s) := by
  unfold Machine.execResetnRelease
  split
  · exact .next (same (s := s.pinReset) (pinReset s) rfl)
  · exact .next h

theorem execReset (h : s.SpeechLawful) (tag : Byte) (p : List Byte) : After State.SpeechLawful (execReset tag p s) := by
  unfold Machine.execReset
  split
  · exact .next h
  · next t ht =>
    split
    · exact .next (same (clearRuntime t .setup) rfl)
    · exact .next ((h.takeFrame ht).putLink _)

theorem execBegin (h : s.SpeechLawful) (tag : Byte) (p : List Byte) : After State.SpeechLawful (execBegin tag p s) := by
  unfold Machine.execBegin
  split
  · exact .next h
  · next t ht =>
    have hu := h.takeFrame ht
    split
    · exact .next (hu.putLink _)
    · split
      · exact .next (hu.putLink _)
      · exact .next (hu.putLink _)

theorem execBankCheckComplete (h : s.SpeechLawful) : After State.SpeechLawful (execBankCheckComplete s) := by
  refine h.occurs fun _ => ?_
  dsimp only
  split
  · exact h
  · exact SpeechView.Lawful.enterReady h

theorem dozeOff (h : s.SpeechLawful) (hrunning : s.arbiter.running = none) : s.dozeOff.SpeechLawful := by
  have hoff : ((s.putVoice { s.voice with amp := .inactive, output := Config.silenceCode }).putOp .doze).SpeechLawful :=
    SpeechView.Lawful.switchOff h (by simp [State.speechView, hrunning]) .doze
  unfold State.dozeOff
  dsimp only
  split
  · exact hoff
  · exact SpeechView.Lawful.enterReady hoff

/-- DOZE is accepted with the running place empty (10 R168). -/
theorem execDoze (h : s.SpeechLawful) (tag : Byte) (p : List Byte) : After State.SpeechLawful (execDoze tag p s) := by
  unfold Machine.execDoze
  split
  · exact .next h
  · next t ht =>
    have hu := h.takeFrame ht
    split
    · exact .next (hu.putLink _)
    · split
      · exact .next (hu.putLink _)
      · split
        · next hdoze =>
          simp only [State.mayDoze, Bool.and_eq_true, Option.isNone_iff_eq_none] at hdoze
          obtain ⟨⟨⟨-, hrunning⟩, -⟩, -⟩ := hdoze
          exact .next (dozeOff (hu.putLink _) hrunning)
        · exact .next (hu.putLink _)

/-! ### Keys and the Key Intake (01, 02) -/

theorem execScan (h : s.SpeechLawful) (raw : BitVec 64) : After State.SpeechLawful (execScan raw s) :=
  h.occurs fun _ => h

theorem execWakingPress (h : s.SpeechLawful) : After State.SpeechLawful (execWakingPress s) :=
  h.occurs fun _ => SpeechView.Lawful.enterReady h

theorem execDiscardHead (h : s.SpeechLawful) : After State.SpeechLawful (execDiscardHead s) := h.occurs fun _ => h

theorem execPressIntervalComplete (h : s.SpeechLawful) (p : Nat) :
    After State.SpeechLawful (execPressIntervalComplete p s) := by
  refine h.occurs fun _ => ?_
  dsimp only
  split
  · exact h.same (State.speechView_offer _ _)
  · exact h

theorem execReleaseIntervalComplete (h : s.SpeechLawful) (p : Nat) :
    After State.SpeechLawful (execReleaseIntervalComplete p s) := by
  refine h.occurs fun _ => ?_
  dsimp only
  split
  · exact h.same (State.speechView_offer _ _)
  · exact h

theorem execTakePass (h : s.SpeechLawful) : After State.SpeechLawful (execTakePass s) := by
  refine h.occurs fun _ => ?_
  split
  · exact h
  · dsimp only
    split
    · exact h
    · exact h

theorem guidedRefusal (h : s.SpeechLawful) : s.guidedRefusal.SpeechLawful := by
  unfold State.guidedRefusal
  extract_lets a judge b
  have hb : b.SpeechLawful := by
    unfold b
    split
    · exact h
    · exact h
  split
  · exact hb.arrive _
  · exact hb

/-- The echo policies empty ECHO's places, cut its running utterance, or do neither (05 R89 to R91). -/
theorem echoOffer (h : s.SpeechLawful) (u : Utterance) : (s.echoOffer u).SpeechLawful := by
  unfold State.echoOffer
  split
  · split
    · exact h.arrive u
    · exact h
  · exact (h.setPending (us := []) nofun).arrive u
  · exact ((h.clearPlace .echo).mapRunning Running.source_snap).arrive u

theorem letterTyped (h : s.SpeechLawful) (sym : Nat) : (s.letterTyped sym).SpeechLawful := by
  unfold State.letterTyped
  split
  · have hloaded := (echoOffer (s := s.putIntake { s.intake with attempt := s.intake.attempt ++ [sym] }) h
      (compose .echo .echo [.letter sym])).cueLoad 0
    unfold State.letterAppended
    dsimp only
    split
    · exact hloaded
    · exact hloaded
  · split
    · exact h
    · exact h

theorem execTakeLetter (h : s.SpeechLawful) : After State.SpeechLawful (execTakeLetter s) := by
  refine h.occurs fun _ => ?_
  split
  · exact h
  · dsimp only
    split
    · exact letterTyped (s := s.popHead) h _
    · exact guidedRefusal (s := s.popHead) h

theorem rubout (h : s.SpeechLawful) : s.rubout.SpeechLawful := by
  unfold State.rubout
  split
  · exact h
  · exact setPending (s := s.putIntake _) h fun u hu => (h.place .echo).pending u (mem_of_mem_withdrawNewest hu)

theorem execTakeRubout (h : s.SpeechLawful) : After State.SpeechLawful (execTakeRubout s) :=
  h.occurs fun _ => (rubout (s := s.popHead) h).cueLoad _

theorem submit (h : s.SpeechLawful) : s.submit.SpeechLawful := by
  unfold State.submit
  split
  · exact h.hearRequest
  · exact h.judgingBegin

theorem execTakeGo (h : s.SpeechLawful) : After State.SpeechLawful (execTakeGo s) :=
  h.occurs fun _ => submit (s := s.popHead) h

theorem execTakeHear (h : s.SpeechLawful) : After State.SpeechLawful (execTakeHear s) :=
  h.occurs fun _ => hearRequest (s := s.popHead) h

theorem execTakeSpace (h : s.SpeechLawful) : After State.SpeechLawful (execTakeSpace s) := by
  refine h.occurs fun _ => ?_
  split
  · exact submit (s := s.popHead) h
  · exact h

theorem hint (h : s.SpeechLawful) : s.hint.SpeechLawful := by
  unfold State.hint
  split
  · split
    · exact arrive (s := s.mapResult _ _) h _
    · exact h.arrive _
  · exact h

theorem execTakeHint (h : s.SpeechLawful) : After State.SpeechLawful (execTakeHint s) :=
  h.occurs fun _ => hint (s := s.popHead) h

/-! ### The Judge and the lesson (03, 04) -/

theorem execJudgingComplete (h : s.SpeechLawful) : After State.SpeechLawful (execJudgingComplete s) := by
  have hjudged : ∀ (t : State) (v : Judgement), t.SpeechLawful → (t.judged v).SpeechLawful := by
    intro t v ht
    unfold State.judged
    extract_lets triesLeft a b c
    have hb : b.SpeechLawful := by
      unfold b
      split
      · exact ht
      · exact ht
    exact hb.arrive _
  refine h.occurs fun _ => ?_
  split
  · exact h
  · exact hjudged (s.putJudge _) _ h

theorem startLesson (h : s.SpeechLawful) (i : Nat) : (s.startLesson i).SpeechLawful := by
  unfold State.startLesson
  extract_lets cycle running judge fresh
  exact wordBegin (s := fresh) h i

theorem stopLesson (h : s.SpeechLawful) : s.stopLesson.SpeechLawful :=
  cueStop (s := State.clearAttempt _) (sweep (s := State.mapResult s.abandonJudging _ _) h)

theorem gotoWord (h : s.SpeechLawful) (i : Nat) : (s.gotoWord i).SpeechLawful :=
  (cueStop (s := State.mapResult s.abandonJudging _ _) h).wordBegin i

/-! ### The Link Port (09) -/

theorem execFrameReceived (h : s.SpeechLawful) (b : Byte) : After State.SpeechLawful (execFrameReceived b s) :=
  h.occurs fun _ => h.same (s.speechView_receive b)

theorem execReceivedByte (h : s.SpeechLawful) (b : Byte) : After State.SpeechLawful (execReceivedByte b s) :=
  h.occurs fun _ => h.same (s.speechView_receive b)

theorem execInterByteTimeout (h : s.SpeechLawful) : After State.SpeechLawful (execInterByteTimeout s) :=
  h.occurs fun _ => h

theorem execTransmitBegin (h : s.SpeechLawful) : After State.SpeechLawful (execTransmitBegin s) := h.occurs fun _ => h

theorem execTransmitComplete (h : s.SpeechLawful) : After State.SpeechLawful (execTransmitComplete s) := by
  refine h.occurs fun _ => ?_
  split
  · exact h
  · exact h.same (s.speechView_transmitted _)

theorem execUnknownCommand (h : s.SpeechLawful) (k tag : Byte) (p : List Byte) :
    After State.SpeechLawful (execUnknownCommand k tag p s) := by
  unfold Machine.execUnknownCommand
  split
  · exact .next h
  · exact h.command fun _ hu => hu

/-! ### The arbiter and the engine (06, 08) -/

theorem playFrom (h : s.SpeechLawful) (u : Utterance) (index : Nat) (previous : Option ItemClass) :
    (s.playFrom u index previous).SpeechLawful := by
  have hreach := h.same (s.speechView_reach index previous (u.items.drop index))
  unfold State.playFrom
  split
  · next t c e =>
    rw [e] at hreach
    exact hreach.same (State.speechView_setCursor _ _)
  · next t e =>
    rw [e] at hreach
    exact hreach.endRunning u .done

/-- A source that starts in READY hands over its own utterance, and no backup stays. -/
theorem startFrom (h : s.SpeechLawful) (hop : s.op = .ready) (src : Source) : (s.startFrom src).SpeechLawful := by
  unfold State.startFrom
  split
  · exact h
  · next u fromPending rest hh =>
    obtain ⟨hsource, hrest, hfree⟩ := (h.place src).handOver hh
    have hleft := h.putPlace hrest fun _ => hfree
    have hentered : ((s.putPlace src rest).enterRunning u).SpeechLawful := by
      refine SpeechView.Lawful.enter hleft hop ?_
      show ((s.putPlace src rest).place u.source).backup = none
      rw [hsource, State.place_putPlace_self, hfree]
    exact ((hentered.same (State.speechView_startReports _ u fromPending)).playFrom u u.resume none).cutInTest

theorem execUtteranceStart (h : s.SpeechLawful) : After State.SpeechLawful (execUtteranceStart s) := by
  refine h.occurs fun hc => ?_
  have hop := State.ready_of_choice (Bool.and_eq_true_iff.mp hc).2
  split
  · exact h
  · exact h.startFrom hop _

theorem nextStage (h : s.SpeechLawful) (r : Running) : (s.nextStage r).SpeechLawful := by
  unfold State.nextStage
  split
  · split
    · exact h.same (State.speechView_setCursor _ _)
    · exact h.playFrom _ _ _
  · exact h.playFrom _ _ _
  · exact h.playFrom _ _ _

theorem execStageEnd (h : s.SpeechLawful) : After State.SpeechLawful (execStageEnd s) := by
  refine h.occurs fun _ => ?_
  split
  · exact h
  · exact h.nextStage _

/-- A restoring fade's utterance goes back to its own source's backup once the running place is empty (06 R114). -/
theorem fadeOver (h : s.SpeechLawful) (u : Utterance) (k : FadeKind) : (s.fadeOver u k).SpeechLawful := by
  cases k with
  | restore =>
    have hbackup : ({ s.place u.source with backup := some u } : Place).OwnedBy u.source :=
      ⟨(h.place u.source).pending, fun w hw => by cases hw; rfl⟩
    exact h.vacate.putPlace hbackup nofun
  | discardCut => exact h.endRunning u .cut
  | discardStopped => exact h.endRunning u .stopped

theorem execFadeEnd (h : s.SpeechLawful) : After State.SpeechLawful (execFadeEnd s) := by
  refine h.occurs fun _ => ?_
  split
  · exact h
  · split
    · exact h
    · exact h.fadeOver _ _

/-- A sample's code is given while an utterance runs (08 R143, R144). -/
theorem giveCode (h : s.SpeechLawful) {r : Running} (hrunning : s.arbiter.running = some r) (x : Int) :
    (s.putVoice { s.voice with output := codeOf x }).SpeechLawful :=
  SpeechView.Lawful.setOutput h (codeOf_le x) (by simp [State.speechView, hrunning])

theorem giveSample (h : s.SpeechLawful) {r : Running} (hrunning : s.arbiter.running = some r) :
    (s.giveSample r).SpeechLawful := by
  unfold State.giveSample
  split
  · split
    · exact h
    · exact (h.giveCode hrunning _).same (State.speechView_setCursor _ _)
  · split
    · exact (h.giveCode hrunning _).mapRunning fun _ => rfl
    · exact h

theorem execSamplePeriod (h : s.SpeechLawful) : After State.SpeechLawful (execSamplePeriod s) := by
  refine h.occurs fun _ => ?_
  split
  · exact SpeechView.Lawful.setOutput h (by decide : 512 ≤ 1023) fun _ => rfl
  · next r hrunning => exact h.giveSample hrunning

theorem execAmpHoldEnd (h : s.SpeechLawful) : After State.SpeechLawful (execAmpHoldEnd s) := by
  refine h.occurs fun hc => SpeechView.Lawful.setAmp h ?_ fun _ => rfl
  cases hamp : s.voice.amp with
  | holding n => simp [State.speechView, hamp]
  | inactive => simp [hamp, Amp.isHolding] at hc
  | active => simp [hamp, Amp.isHolding] at hc

theorem flushHost (h : s.SpeechLawful) : s.flushHost.SpeechLawful := by
  rw [s.flushHost_eq]
  exact (h.clearPlace .now).clearPlace .queue

/-! ### The Cue Timer (07) -/

theorem expire (h : s.SpeechLawful) : s.expire.SpeechLawful := by
  have hplaced : s.placeCue.SpeechLawful := by
    unfold State.placeCue
    split
    · exact h.arrive _
    · exact h
  unfold State.expire
  split
  · exact hplaced.cueLoad _
  · exact cueStop (s := s.raise _) h

theorem execCueDecrement (h : s.SpeechLawful) : After State.SpeechLawful (execCueDecrement s) := h.occurs fun _ => h

theorem execCueExpiry (h : s.SpeechLawful) : After State.SpeechLawful (execCueExpiry s) := h.occurs fun _ => h.expire

/-! ### Every row and every step -/

theorem exec (h : s.SpeechLawful) (c : Instr) : After State.SpeechLawful (exec c s) := by
  cases c with
  | pinReset => exact .next (pinReset s)
  | resetnRelease => exact h.execResetnRelease
  | scan raw => exact h.execScan raw
  | pressIntervalComplete position => exact h.execPressIntervalComplete position
  | releaseIntervalComplete position => exact h.execReleaseIntervalComplete position
  | wakingPress => exact h.execWakingPress
  | takePass => exact h.execTakePass
  | discardHead => exact h.execDiscardHead
  | takeLetter => exact h.execTakeLetter
  | takeRubout => exact h.execTakeRubout
  | takeGo => exact h.execTakeGo
  | takeSpace => exact h.execTakeSpace
  | takeHear => exact h.execTakeHear
  | takeHint => exact h.execTakeHint
  | judgingComplete => exact h.execJudgingComplete
  | utteranceStart => exact h.execUtteranceStart
  | stageEnd => exact h.execStageEnd
  | fadeEnd => exact h.execFadeEnd
  | cueDecrement => exact h.execCueDecrement
  | cueExpiry => exact h.execCueExpiry
  | ampHoldEnd => exact h.execAmpHoldEnd
  | frameReceived byte => exact h.execFrameReceived byte
  | interByteTimeout => exact h.execInterByteTimeout
  | transmitBegin => exact h.execTransmitBegin
  | transmitComplete => exact h.execTransmitComplete
  | unknownCommand kind tag payload => exact h.execUnknownCommand kind tag payload
  | status tag payload => exact h.command fun _ hu => hu.check hu
  | begin tag payload => exact h.execBegin tag payload
  | bankCheckComplete => exact h.execBankCheckComplete
  | reset tag payload => exact h.execReset tag payload
  | doze tag payload => exact h.execDoze tag payload
  | wake tag payload => exact h.command fun _ hu => hu.check (hu.check (SpeechView.Lawful.enterReady hu))
  | setKeys tag payload => exact h.command fun _ hu => hu.check (hu.check (hu.check hu))
  | setIntake tag payload => exact h.command fun _ hu => hu.lessonSetting hu
  | setLetters tag payload => exact h.command fun _ hu => hu.lessonSetting hu
  | setPhrases tag payload => exact h.command fun _ hu => hu.check hu
  | setPairs tag payload => exact h.command fun _ hu => hu.lessonSetting hu
  | setSources tag payload =>
    exact h.command fun u hu => hu.lessonSetting (cutInTest (s := u.putArbiter (u.arbiter.configure payload)) hu)
  | setCue tag payload => exact h.command fun _ hu => hu.lessonSetting hu
  | setJudge tag payload => exact h.command fun _ hu => hu.lessonSetting hu
  | setVoice tag payload => exact h.command fun _ hu => hu.check (hu.check hu)
  | loadWords tag payload => exact h.command fun _ hu => hu.check (hu.check (hu.check (hu.check (hu.check hu))))
  | clearWords tag payload => exact h.command fun _ hu => hu.readyBare (hu.check hu)
  | start tag payload => exact h.command fun _ hu => hu.lessonCommand (hu.check (hu.startLesson _))
  | pause tag payload =>
    exact h.command fun u hu => hu.lessonCommand (mapRunning (s := u.putCycle _) hu Running.source_pauseCut)
  | resume tag payload => exact h.command fun u hu => hu.lessonCommand (cutInTest (s := u.putCycle _) hu)
  | stop tag payload => exact h.command fun _ hu => hu.lessonCommand hu.stopLesson
  | goto tag payload => exact h.command fun _ hu => hu.lessonCommand (hu.check (hu.gotoWord _))
  | releaseLetter tag payload => exact h.releaseCommand fun _ hu => hu.check hu
  | releasePass tag payload => exact h.releaseCommand fun _ hu => hu.check hu
  | releaseWord tag payload => exact h.releaseCommand fun _ hu => hu.check hu.advance
  | getAttempt tag payload => exact h.command fun _ hu => hu.readyBare hu
  | getResults tag payload => exact h.command fun _ hu => hu.check (hu.check (hu.check hu))
  | setWindow tag payload => exact h.command fun _ hu => hu.check (hu.check (hu.check hu))
  | getTally tag payload => exact h.command fun _ hu => hu.readyBare hu
  | say tag payload => exact h.command fun _ hu => hu.sayChecks (hu.arrive _)
  | sayNow tag payload => exact h.command fun _ hu => hu.sayChecks (hu.arrive _)
  | cut tag payload =>
    exact h.command fun _ hu => hu.readyBare (hu.mapRunning fun r => r.source_cutDiscard (by simp))
  | flush tag payload => exact h.command fun _ hu => hu.readyBare hu.flushHost
  | receivedByte byte => exact h.execReceivedByte byte
  | samplePeriod => exact h.execSamplePeriod

theorem step (h : s.SpeechLawful) : After State.SpeechLawful (step s) := by
  unfold Machine.step
  split
  · exact .next h.passTime
  · next c rest _ =>
    have hrest : ({ s with pending := rest } : State).SpeechLawful := h
    exact hrest.exec c

end State.SpeechLawful

/-- Settles O57: the laws are those of the five values, and every row keeps these. -/
theorem stepKeepsSpeechLaws : Obligations.StepKeepsSpeechLaws := by
  intro s t hplaces hspeaker hstep
  exact t.speechLawful_iff.mp ((s.speechLawful_iff.mpr ⟨hplaces, hspeaker⟩).step t hstep)

end Sys2Proof.Machine
end

section
/-! PROOFS. SET_PHRASES, SET_VOICE and SET_WINDOW (O24): each row's answers by its checks in order. An answer as it goes out
(`Answer.sent`) is told check by check. -/

namespace Sys2Proof.Machine

/-! ### An answer as it goes out -/

/-- The state an owner leaves, with its reply entered last (09 R155, R157). -/
def Answer.sent (a : Answer) (kind tag : Byte) : State := a.state.replied kind tag a.result a.payload

theorem State.command_sent {s u : State} {kind tag : Byte} {p : List Byte} (owner : State → Answer)
    (hkind : knownKind kind = true) (h : Takes s ⟨kind, tag, p⟩ u) :
    s.command kind tag p owner = .next ((owner u).sent (kind + 0x80) tag) := by
  have hreply : replyKind kind = kind + 0x80 := if_pos hkind
  rw [State.command_of_takes owner h, hreply]
  rfl

/-- A check that holds leaves the rest of the answer, and the first that fails is the answer (09 R156). -/
theorem Answer.sent_check (s : State) (cond : Bool) (r : ResultCode) (k : Answer) (kind tag : Byte) :
    (s.check cond r k).sent kind tag = if cond = true then k.sent kind tag else s.replied kind tag r [] := by
  cases cond <;> rfl

theorem Answer.sent_accept (s : State) (p : List Byte) (kind tag : Byte) :
    (s.accept p).sent kind tag = s.replied kind tag .ok p := rfl

/-! ### The settings of any time -/

theorem echoStyleOf_of_le {n : Nat} (h : n ≤ 2) :
    echoStyleOf n = some (if n = 0 then .names else if n = 1 then .sounds else .perLetter) := by
  match n, h with
  | 0, _ => rfl
  | 1, _ => rfl
  | 2, _ => rfl

theorem echoStyleOf_of_lt {n : Nat} (h : 2 < n) : echoStyleOf n = none := by
  match n, h with
  | n + 3, _ => rfl

/-- Settles O24: each row answers with the first of its checks that fails, or stores the fields of its payload. -/
theorem settingsTakenAtAnyTime : Obligations.SettingsTakenAtAnyTime := by
  refine ⟨fun s u tag p h => ?_, fun s u tag p h => ?_, fun s u tag p h => ?_⟩
  · rw [exec, execSetPhrases, State.command_sent _ (by decide) h, Answer.sent_check, Answer.sent_accept, h.sources]
    by_cases hsize : p.length = 16
    · rw [if_pos (decide_eq_true hsize), if_neg (Decidable.not_not.mpr hsize)]
      rfl
    · rw [if_neg (by simpa using hsize), if_pos hsize]
      rfl
  · rw [exec, execSetVoice, State.command_sent _ (by decide) h, Answer.sent_check, Answer.sent_check, Answer.sent_accept,
      h.voice]
    by_cases hsize : p.length = 5
    · rw [if_pos (decide_eq_true hsize), if_neg (Decidable.not_not.mpr hsize)]
      by_cases hstyle : field p 4 ≤ 2
      · rw [echoStyleOf_of_le hstyle, if_neg (Nat.not_lt.mpr hstyle)]
        rfl
      · rw [echoStyleOf_of_lt (Nat.not_le.mp hstyle), if_pos (Nat.not_le.mp hstyle)]
        rfl
    · rw [if_neg (by simpa using hsize), if_pos hsize]
      rfl
  · rw [exec, execSetWindow, State.command_sent _ (by decide) h, Answer.sent_check, Answer.sent_check, Answer.sent_check,
      Answer.sent_accept, ← h.op, h.judge]
    by_cases hop : u.op = .doze
    · rw [if_neg (by simpa using hop), if_pos hop]
      rfl
    · rw [if_pos (decide_eq_true hop), if_neg hop]
      by_cases hsize : p.length = 2
      · rw [if_pos (decide_eq_true hsize), if_neg (Decidable.not_not.mpr hsize)]
        by_cases hrange : field p 0 ≤ 31 ∧ 1 ≤ field p 1 ∧ field p 1 ≤ 32
        · rw [if_pos (decide_eq_true hrange), if_neg (by omega)]
          rfl
        · rw [if_neg (by simpa using hrange), if_pos (by omega)]
          rfl
      · rw [if_neg (by simpa using hsize), if_pos hsize]
        rfl

end Sys2Proof.Machine
end

section
/-! PROOFS. SAY and SAY_NOW (O45): what the three bytes of an item read as, what the value checks say of a payload, and the
answers of the two rows by their shared checks. -/

namespace Sys2Proof.Machine

/-! ### Items (05 R84, 11 R173) -/

/-- The kind and the operand of an item that has a meaning. -/
def ItemOk (kind operand : Nat) : Prop :=
  (1 ≤ kind ∧ kind ≤ 6) ∧ (kind = 2 ∨ kind = 3 → 1 ≤ operand ∧ operand ≤ 28) ∧
    (kind = 6 → 1 ≤ operand ∧ operand ≤ 255)

theorem itemOk_of_isSome {r : List Byte} (h : (itemOf r).isSome = true) : ItemOk (field r 0) (field16 r 1) := by
  have hsymbol : ∀ {i : Item}, (if isSymbol (field16 r 1) then some i else none).isSome = true →
      1 ≤ field16 r 1 ∧ field16 r 1 ≤ 28 := by
    intro i hi
    split at hi
    · next hok => exact of_decide_eq_true hok
    · cases hi
  unfold itemOf at h
  unfold ItemOk
  split at h
  · next hkind => omega
  · next hkind =>
    have := hsymbol h
    omega
  · next hkind =>
    have := hsymbol h
    omega
  · next hkind => omega
  · next hkind => omega
  · next hkind =>
    split at h
    · omega
    · cases h
  · cases h

theorem field16_le16 (b : Byte) {n : Nat} (h : n < 65536) : field16 (b :: le16 n) 1 = n := toNat_le16 h

/-- An item reads back from its three bytes. -/
theorem itemOf_itemBytes {i : Item} (h : i.inRange = true) : itemOf (itemBytes i) = some i := by
  cases i with
  | clip n =>
    have hn : n ≤ 65535 := of_decide_eq_true h
    simp [itemOf, itemBytes, field, field16_le16 _ (n := n) (by omega)]
  | letter sym =>
    have hsym : isSymbol sym = true := h
    have hle : sym ≤ 28 := (of_decide_eq_true hsym).2
    simp [itemOf, itemBytes, field, field16_le16 _ (n := sym) (by omega), hsym]
  | name sym =>
    have hsym : isSymbol sym = true := h
    have hle : sym ≤ 28 := (of_decide_eq_true hsym).2
    simp [itemOf, itemBytes, field, field16_le16 _ (n := sym) (by omega), hsym]
  | word => rfl
  | sentence => rfl
  | gap n =>
    have hn : 1 ≤ n ∧ n ≤ 255 := of_decide_eq_true h
    simp [itemOf, itemBytes, field, field16_le16 _ (n := n) (by omega), hn]

/-- `w` are three bytes that the host may send for an item: a WORD or SENTENCE whatever its operand bytes hold. -/
def Item.SentAs (i : Item) (w : List Byte) : Prop :=
  w = itemBytes i ∨ (i = .word ∧ ∃ x y, w = [4, x, y]) ∨ (i = .sentence ∧ ∃ x y, w = [5, x, y])

theorem Item.SentAs.length {i : Item} {w : List Byte} (h : i.SentAs w) : w.length = 3 := by
  rcases h with rfl | ⟨-, x, y, rfl⟩ | ⟨-, x, y, rfl⟩
  · cases i <;> rfl
  · rfl
  · rfl

theorem Item.SentAs.read {i : Item} {w : List Byte} (h : i.SentAs w) (hi : i.inRange = true) : itemOf w = some i := by
  rcases h with rfl | ⟨rfl, x, y, rfl⟩ | ⟨rfl, x, y, rfl⟩
  · exact itemOf_itemBytes hi
  · rfl
  · rfl

/-! ### What a payload says -/

theorem sayPayloadSize_iff (p : List Byte) : sayPayloadSize p = true ↔ 2 ≤ p.length ∧ p.length = 2 + 3 * field p 1 :=
  decide_eq_true_iff

/-- The values that SAY and SAY_NOW take (05 R98). -/
theorem sayValues_imp {p : List Byte} (h : sayValues p = true) :
    (1 ≤ field p 1 ∧ field p 1 ≤ 24) ∧ field p 0 ≤ 1 ∧
      ∀ i, i < field p 1 → ItemOk (field p (2 + 3 * i)) (field16 p (3 + 3 * i)) := by
  simp only [sayValues, Bool.and_eq_true, decide_eq_true_eq] at h
  obtain ⟨⟨hcount, hnotify⟩, hitems⟩ := h
  have htop : 1 ≤ field p 1 ∧ field p 1 ≤ 24 := hcount
  refine ⟨htop, le_of_flagOf hnotify, fun i hi => ?_⟩
  have hitem := itemOk_of_isSome (isSome_of_allSome_records hitems hi)
  have hoperand : field16 ((p.drop (2 + 3 * i)).take 3) 1 = field16 p (3 + 3 * i) := by
    rw [field16, field_record _ _ (by decide), field_record _ _ (by decide), field16,
      show 2 + 3 * i + 1 = 3 + 3 * i by omega, show 2 + 3 * i + (1 + 1) = 3 + 3 * i + 1 by omega]
  rwa [field_record _ _ (by decide), hoperand] at hitem

/-- Elements that each read as their value read together as the values in order. -/
theorem allSome_map {α β γ : Type} {f : β → Option γ} {g : α → β} {v : α → γ} {l : List α}
    (h : ∀ a ∈ l, f (g a) = some (v a)) : allSome f (l.map g) = some (l.map v) := by
  induction l with
  | nil => rfl
  | cons a rest ih =>
    obtain ⟨ha, hrest⟩ := List.forall_mem_cons.mp h
    simp [allSome, ha, ih hrest]

/-- The payload of SAY and SAY_NOW with its items' bytes (11 R173). -/
def sayPayload (notify : Bool) (ws : List (Item × List Byte)) : List Byte :=
  flagByte notify :: byteOf ws.length :: ws.flatMap Prod.snd

section
variable {notify : Bool} {ws : List (Item × List Byte)} (hcount : ws.length ≤ 24)
  (hws : ∀ w ∈ ws, w.1.inRange = true ∧ w.1.SentAs w.2)

include hcount in
theorem field_sayPayload : field (sayPayload notify ws) 1 = ws.length := toNat_byteOf (by omega)

include hws in
theorem length_of_mem_sent {r : List Byte} (h : r ∈ ws.map Prod.snd) : r.length = 3 := by
  obtain ⟨w, hw, rfl⟩ := List.mem_map.mp h
  exact (hws w hw).2.length

include hcount hws

theorem sayPayloadSize_sayPayload : sayPayloadSize (sayPayload notify ws) = true := by
  have hitems : (ws.flatMap Prod.snd).length = 3 * ws.length := by
    rw [List.flatMap_def, length_flatten_records fun _ => length_of_mem_sent hws, List.length_map]
  rw [sayPayloadSize_iff, field_sayPayload hcount]
  simp only [sayPayload, List.length_cons, hitems]
  omega

/-- The items read back as they were laid out. -/
theorem itemsOf_sayPayload : itemsOf (sayPayload notify ws) = some (ws.map Prod.fst) := by
  have hrecords : records 3 ws.length (ws.flatMap Prod.snd) = ws.map Prod.snd := by
    have hread := records_flatten fun _ => length_of_mem_sent hws
    rwa [List.length_map, ← List.flatMap_def] at hread
  rw [itemsOf, field_sayPayload hcount]
  refine (congrArg (allSome itemOf) hrecords).trans (allSome_map fun w hw => ?_)
  exact (hws w hw).2.read (hws w hw).1

theorem sayValues_sayPayload (hpos : 1 ≤ ws.length) : sayValues (sayPayload notify ws) = true := by
  have hnotify : flagOf (field (sayPayload notify ws) 0) = some notify := flagOf_flagByte notify
  have hrange : 1 ≤ ws.length ∧ ws.length ≤ Config.itemCapacity := ⟨hpos, hcount⟩
  rw [sayValues, field_sayPayload hcount, hnotify, itemsOf_sayPayload hcount hws, decide_eq_true hrange]
  rfl

theorem hostUtterance_sayPayload (src : Source) (tag : Byte) :
    hostUtterance src tag (sayPayload notify ws) = ⟨src, .host, tag, notify, ws.map Prod.fst, 0⟩ := by
  have hnotify : flagOf (field (sayPayload notify ws) 0) = some notify := flagOf_flagByte notify
  rw [hostUtterance, hnotify, itemsOf_sayPayload hcount hws]
  rfl

end

/-! ### The answers of the two rows -/

/-- A command under the checks of SAY and SAY_NOW is answered by the first that fails (05 R98). -/
theorem sayChecks_of_takes {s u : State} {kind tag : Byte} {p : List Byte} (room : State → Bool) (r : ResultCode)
    (k : State → Answer) (hkind : knownKind kind = true) (h : Takes s ⟨kind, tag, p⟩ u) :
    (s.command kind tag p fun s => s.sayChecks p (room s) r (k s)) = .next
      (if s.op = .ready then
        if sayPayloadSize p = true then
          if sayValues p = true then
            if room u = true then (k u).sent (kind + 0x80) tag else u.replied (kind + 0x80) tag r []
          else u.replied (kind + 0x80) tag .range []
        else u.replied (kind + 0x80) tag .length []
       else u.replied (kind + 0x80) tag .state []) := by
  rw [State.command_sent _ hkind h, State.sayChecks, h.op]
  simp only [Answer.sent_check, decide_eq_true_eq]

/-- The refusals that SAY and SAY_NOW share (05 R98, R99). -/
theorem sayChecks_refused {s u : State} {kind tag : Byte} {p : List Byte} {room : State → Bool} {r : ResultCode}
    {k : State → Answer} {o : Host.Outcome State Fault Refusal}
    (ho : o = s.command kind tag p fun s => s.sayChecks p (room s) r (k s)) (hkind : knownKind kind = true)
    (h : Takes s ⟨kind, tag, p⟩ u) :
    (s.op ≠ .ready → o = .next (u.replied (kind + 0x80) tag .state [])) ∧
      (s.op = .ready → p.length < 2 ∨ p.length ≠ 2 + 3 * field p 1 →
        o = .next (u.replied (kind + 0x80) tag .length [])) ∧
      (s.op = .ready → p.length = 2 + 3 * field p 1 → sayValues p = false →
        o = .next (u.replied (kind + 0x80) tag .range [])) := by
  rw [ho, sayChecks_of_takes room r k hkind h]
  refine ⟨fun hop => ?_, fun hop hsize => ?_, fun hop hsize hvalues => ?_⟩
  · rw [if_neg hop]
  · have hno : ¬sayPayloadSize p = true := mt (sayPayloadSize_iff p).mp (by omega)
    rw [if_pos hop, if_neg hno]
  · have hyes : sayPayloadSize p = true := (sayPayloadSize_iff p).mpr ⟨by omega, hsize⟩
    rw [if_pos hop, if_pos hyes, if_neg (by simp [hvalues])]

theorem Takes.place {s u : State} {f : HostFrame} (h : Takes s f u) (src : Source) : u.place src = s.place src :=
  congrArg (fun b : Sources => b.places.get src) h.sources

section
variable {s u : State} {tag : Byte} {notify : Bool} {ws : List (Item × List Byte)} (hop : s.op = .ready)
  (hpos : 1 ≤ ws.length) (hcount : ws.length ≤ 24) (hws : ∀ w ∈ ws, w.1.inRange = true ∧ w.1.SentAs w.2)
include hop hpos hcount hws

/-- A good payload in READY is answered by the room that the source has. -/
theorem sayChecks_accepted {kind : Byte} (room : State → Bool) (r : ResultCode) (k : State → Answer)
    (hkind : knownKind kind = true) (h : Takes s ⟨kind, tag, sayPayload notify ws⟩ u) :
    (s.command kind tag (sayPayload notify ws) fun s => s.sayChecks (sayPayload notify ws) (room s) r (k s)) = .next
      (if room u = true then (k u).sent (kind + 0x80) tag else u.replied (kind + 0x80) tag r []) := by
  rw [sayChecks_of_takes room r k hkind h, if_pos hop, if_pos (sayPayloadSize_sayPayload hcount hws),
    if_pos (sayValues_sayPayload hcount hws hpos)]

/-- SAY of a good payload: the QUEUE list is full, or it takes the utterance and the reply carries its level. -/
theorem execSay_sayPayload (h : Takes s ⟨0x30, tag, sayPayload notify ws⟩ u) :
    exec (.say tag (sayPayload notify ws)) s = .next
      (if (s.place .queue).pending.length < 16 then
        (u.arrive ⟨.queue, .host, tag, notify, ws.map Prod.fst, 0⟩).replied 0xB0 tag .ok
          [byteOf ((s.place .queue).pending.length + 1)]
       else u.replied 0xB0 tag .full []) := by
  have hlevel : ∀ w : Utterance, w.source = .queue →
      ((u.arrive w).place .queue).pending.length = (s.place .queue).pending.length + 1 := by
    intro w hw
    have harrived := u.pending_arrive w
    rw [hw, h.place] at harrived
    rw [harrived, List.length_append]
    rfl
  refine (sayChecks_accepted hop hpos hcount hws _ .full _ (by decide) h).trans ?_
  dsimp only
  rw [hostUtterance_sayPayload hcount hws, hlevel _ rfl, h.place]
  simp only [decide_eq_true_eq]
  rfl

/-- SAY_NOW of a good payload: the NOW slot is filled, or it takes the utterance. -/
theorem execSayNow_sayPayload (h : Takes s ⟨0x31, tag, sayPayload notify ws⟩ u) :
    exec (.sayNow tag (sayPayload notify ws)) s = .next
      (if (s.place .now).pending = [] then
        (u.arrive ⟨.now, .host, tag, notify, ws.map Prod.fst, 0⟩).replied 0xB1 tag .ok []
       else u.replied 0xB1 tag .occupied []) := by
  refine (sayChecks_accepted hop hpos hcount hws _ .occupied _ (by decide) h).trans ?_
  rw [hostUtterance_sayPayload hcount hws, h.place]
  simp only [List.isEmpty_iff]
  rfl

end

/-- Settles O45: the shared checks refuse, and a good payload's items read back and the utterance arrives. -/
theorem hostSpeechCommands : Obligations.HostSpeechCommands := by
  constructor
  · intro s u tag p kind operand badItem refused
    have hbad : field p 1 = 0 ∨ 24 < field p 1 ∨ 1 < field p 0 ∨ (∃ i, i < field p 1 ∧ badItem i) →
        sayValues p = false := by
      intro hbad
      refine Bool.eq_false_iff.mpr fun hok => ?_
      obtain ⟨hrange, hnotify, hitems⟩ := sayValues_imp hok
      rcases hbad with hbad | hbad | hbad | ⟨i, hi, hbad⟩
      · omega
      · omega
      · omega
      · obtain ⟨hkind, hsymbol, hgap⟩ : ItemOk (kind i) (operand i) := hitems i hi
        omega
    refine ⟨fun h => ?_, fun h => ?_⟩
    · obtain ⟨hstate, hlength, hrange⟩ := sayChecks_refused (o := exec (.say tag p) s) rfl (by decide) h
      exact ⟨hstate, hlength, fun hop hsize hno => hrange hop hsize (hbad hno)⟩
    · obtain ⟨hstate, hlength, hrange⟩ := sayChecks_refused (o := exec (.sayNow tag p) s) rfl (by decide) h
      exact ⟨hstate, hlength, fun hop hsize hno => hrange hop hsize (hbad hno)⟩
  · intro s u tag notify ws hop hpos hcount hws items payload
    refine ⟨fun h => ?_, fun h => ?_⟩
    · have hexec := execSay_sayPayload hop hpos hcount hws h
      refine ⟨fun hfull => hexec.trans ?_, fun hroom => ⟨u.arrive ⟨.queue, .host, tag, notify, items, 0⟩,
        hexec.trans ?_, u.sameBut_arrive _, ?_, ?_, ?_, ?_⟩⟩
      · rw [if_neg (Nat.not_lt.mpr hfull)]
      · rw [if_pos hroom]
      · rw [State.arrive_phrases, h.sources]
      · rw [← h.place]
        exact State.place_arrive_self _ _
      · exact fun src hsrc => (State.place_arrive_ne _ _ hsrc).trans (h.place src)
      · exact u.cutInTested_arrive _
    · have hexec := execSayNow_sayPayload hop hpos hcount hws h
      refine ⟨fun hfilled => hexec.trans ?_, fun hempty => ⟨u.arrive ⟨.now, .host, tag, notify, items, 0⟩,
        hexec.trans ?_, u.sameBut_arrive _, ?_, ?_, ?_, ?_⟩⟩
      · rw [if_neg hfilled]
      · rw [if_pos hempty]
      · rw [State.arrive_phrases, h.sources]
      · refine (State.place_arrive_self _ _).trans ?_
        rw [h.place, hempty]
        rfl
      · exact fun src hsrc => (State.place_arrive_ne _ _ hsrc).trans (h.place src)
      · exact u.cutInTested_arrive _

end Sys2Proof.Machine
end

section
/-! PROOFS. CUT and FLUSH (O46): what a cut does to the running utterance (06 R112, R115), and what FLUSH
empties, leaves and reports (05 R102, R103). -/

namespace Sys2Proof.Machine

/-! ### The two checks -/

/-- A command that READY alone accepts and that carries nothing is refused by the first of its checks that fails. -/
theorem readyBare_refused {s u : State} {kind tag : Byte} {p : List Byte} (k : State → Answer)
    (hkind : knownKind kind = true) (h : Takes s ⟨kind, tag, p⟩ u) (hno : s.op ≠ .ready ∨ p ≠ []) :
    (s.command kind tag p fun s => s.readyBare p (k s)) = .next
      (u.replied (kind + 0x80) tag (if s.op ≠ .ready then .state else .length) []) := by
  rw [readyBare_of_takes k hkind h]
  by_cases hop : s.op = .ready
  · have hp : p ≠ [] := hno.resolve_left (Decidable.not_not.mpr hop)
    simp [hop, hp]
  · simp [hop]

theorem readyBare_accepted {s u : State} {kind tag : Byte} (k : State → Answer) (hkind : knownKind kind = true)
    (h : Takes s ⟨kind, tag, []⟩ u) (hop : s.op = .ready) :
    (s.command kind tag [] fun s => s.readyBare [] (k s)) = .next ((k u).sent (kind + 0x80) tag) := by
  rw [readyBare_of_takes k hkind h, if_neg (Decidable.not_not.mpr hop), if_neg (fun hno => hno rfl)]
  rfl

/-! ### CUT (05 R101; 06 R112, R115) -/

theorem State.mapRunning_idle {s : State} (f : Running → Running) (h : s.arbiter.running = none) : s.mapRunning f = s := by
  rw [State.mapRunning_eq, h, Option.map_none, ← h]

theorem State.mapRunning_running {s : State} (f : Running → Running) {r : Running} (h : s.arbiter.running = some r) :
    s.mapRunning f = { s with arbiter := { s.arbiter with running := some (f r) } } := by
  rw [State.mapRunning_eq, h, Option.map_some]

theorem State.cutPayload_idle {s : State} (h : s.arbiter.running = none) : s.cutPayload = [0, 0, 0] := by
  rw [State.cutPayload, h]

theorem State.cutPayload_running {s : State} {r : Running} (h : s.arbiter.running = some r) :
    s.cutPayload = [1, r.utterance.source.code, r.utterance.tag] := by
  rw [State.cutPayload, h]

theorem execCut_accepted {s u : State} {tag : Byte} (h : Takes s ⟨0x32, tag, []⟩ u) (hop : s.op = .ready) :
    exec (.cut tag []) s =
      .next ((u.mapRunning fun r => r.cutDiscard .discardCut).replied 0xB2 tag .ok u.cutPayload) :=
  readyBare_accepted _ (by decide) h hop

/-! ### FLUSH (05 R102, R103) -/

theorem execFlush_accepted {s u : State} {tag : Byte} (h : Takes s ⟨0x33, tag, []⟩ u) (hop : s.op = .ready) :
    exec (.flush tag []) s = .next (u.flushHost.replied 0xB3 tag .ok [byteOf u.flushed.length]) :=
  readyBare_accepted _ (by decide) h hop

theorem State.sameBut_putLink (s : State) (l : Link) : SameBut [.link] s (s.putLink l) :=
  ⟨rfl, rfl, fun b hb => by cases b <;> first | rfl | simp at hb⟩

theorem State.sameBut_flushHost (s : State) : SameBut [.sources, .link] s s.flushHost := by
  rw [s.flushHost_eq]
  exact (((s.sameBut_putPlace _ _).trans (State.sameBut_putPlace _ _ _)).trans (State.sameBut_putLink _ _)).mono
    (by decide)

/-- FLUSH empties the places of NOW and QUEUE and leaves the lesson sources. -/
theorem State.place_flushHost (s : State) (src : Source) :
    s.flushHost.place src = if src.isLesson = true then s.place src else ⟨[], none⟩ := by
  rw [s.flushHost_eq, State.place_putLink]
  cases src <;> rfl

/-- Settles O46: the two checks refuse; CUT changes the running utterance and FLUSH empties the host sources. -/
theorem cutAndFlush : Obligations.CutAndFlush := by
  refine ⟨?_, ?_, ?_⟩
  · intro s u tag p hno refusal
    exact ⟨fun h => readyBare_refused _ (by decide) h hno, fun h => readyBare_refused _ (by decide) h hno⟩
  · intro s u tag h hop
    refine ⟨fun hidle => ?_, fun r hr => ?_⟩
    · have hidle' := h.arbiter ▸ hidle
      rw [execCut_accepted h hop, State.mapRunning_idle _ hidle', State.cutPayload_idle hidle']
    · have hr' := h.arbiter ▸ hr
      rw [execCut_accepted h hop, State.mapRunning_running _ hr', State.cutPayload_running hr', h.arbiter]
      obtain ⟨utterance, state, cursor⟩ := r
      cases state with
      | playing => rfl
      | fading kind n => cases kind <;> rfl
  · intro s u tag h hop gone
    have hgone : u.flushed = gone := by
      unfold State.flushed
      rw [h.place, h.place]
    refine ⟨u.flushHost, ?_, u.sameBut_flushHost, ?_, u.place_flushHost .now, u.place_flushHost .queue, ?_, ?_⟩
    · rw [execFlush_accepted h hop, hgone]
    · rw [u.flushHost_eq, State.putLink_sources, State.putPlace_phrases, State.putPlace_phrases, h.sources]
    · intro src hsrc
      rw [u.place_flushHost, if_pos hsrc, h.place]
    · rw [u.flushHost_eq, State.putLink_link, hgone]

end Sys2Proof.Machine
end

section
/-! PROOFS. SET_SOURCES (O28): the settings that an accepted payload stores, read source by source (06 R118, R119). -/

namespace Sys2Proof.Machine

/-! ### Codes that a setting reads -/

theorem flagOf_of_le {n : Nat} (h : n ≤ 1) : flagOf n = some (decide (n = 1)) := by
  match n, h with
  | 0, _ => rfl
  | 1, _ => rfl

theorem isSome_echoPolicyOf {n : Nat} (h : n ≤ 2) : (echoPolicyOf n).isSome = true := by
  match n, h with
  | 0, _ | 1, _ | 2, _ => rfl

theorem sourcesValues_of {p : List Byte} (hflags : ∀ i, i < 6 → field p (2 * i + 1) ≤ 1) (hpolicy : field p 12 ≤ 2) :
    sourcesValues p = true := by
  simp only [sourcesValues, Bool.and_eq_true, List.all_eq_true, List.mem_range]
  exact ⟨fun i hi => by rw [flagOf_of_le (hflags i hi)]; rfl, isSome_echoPolicyOf hpolicy⟩

theorem settingAt_eq {p : List Byte} {i : Nat} (h : field p (2 * i + 1) ≤ 1) :
    settingAt p i = ⟨min 3 (field p (2 * i)), decide (field p (2 * i + 1) = 1)⟩ := by
  rw [settingAt, flagOf_of_le h, Option.getD_some]

/-! ### What an accepted payload stores -/

/-- The setting of the source at place `i` of the tie order is the payload's setting `i` (06 R119). -/
theorem Arbiter.configure_setting (a : Arbiter) (p : List Byte) {i : Nat} {src : Source} (h : tieOrder[i]? = some src) :
    (a.configure p).settings.get src = settingAt p i := by
  match i, h with
  | 0, h | 1, h | 2, h | 3, h | 4, h | 5, h => cases h; rfl

theorem Arbiter.configure_echoPolicy (a : Arbiter) {p : List Byte} (h : field p 12 ≤ 2) :
    echoPolicyOf (field p 12) = some (a.configure p).echoPolicy := by
  obtain ⟨policy, hpolicy⟩ := Option.isSome_iff_exists.mp (isSome_echoPolicyOf h)
  rw [hpolicy, Arbiter.configure, hpolicy, Option.getD_some]

/-- Settles O28: every check holds, the settings are stored, and the cut-in test is made over them. -/
theorem setSourcesStoresAndTests : Obligations.SetSourcesStoresAndTests := by
  intro s u tag p h hop hidle hsize hflags hpolicy
  let a := u.arbiter.configure p
  refine ⟨a, (u.putArbiter a).cutInTest, ?_, rfl,
    Arbiter.configure_echoPolicy _ hpolicy, fun i src hi => ?_, ?_, ?_, .of_cutInTest rfl⟩
  · show u.arbiter.running = s.arbiter.running
    rw [h.arbiter]
  · have hplace : i < 6 := (List.getElem?_eq_some_iff.mp hi).1
    rw [Arbiter.configure_setting _ _ hi, settingAt_eq (hflags i hplace)]
  · exact lessonSetting_accepted (by decide) (decide_eq_true hsize) (sourcesValues_of hflags hpolicy) h hop hidle
  · exact ((u.sameBut_putArbiter a).trans (State.sameBut_cutInTest _)).mono (by decide)

end Sys2Proof.Machine
end

section
/-! PROOFS. Who may speak, who is chosen and whom the cut-in test reaches (O39; 06 R107, R108, R111). Urgency with
the tie order (`State.Precedes`) is a linear order of the sources, and the choice is its first participating one. -/

namespace Sys2Proof.Machine

/-! ### Eligibility and participation (06 R107; 07 R127) -/

theorem State.lockOn_iff (s : State) :
    s.lockOn = true ↔ s.cue.running = true ∧ s.cue.boundary ≠ 0 ∧ s.cue.remaining ≤ s.cue.boundary := by
  simp [State.lockOn, and_assoc]

theorem State.eligible_iff (s : State) (src : Source) :
    s.eligible src = true ↔
      s.op = .ready ∧ (src.isLesson = true → s.cycle.lesson = .running) ∧
        (src = .cue ∨ ¬(s.lockOn = true ∧ s.level .cue ≤ s.level src)) := by
  have hlesson : (!src.isLesson || decide (s.cycle.lesson = .running)) = true ↔
      (src.isLesson = true → s.cycle.lesson = .running) := by
    cases src.isLesson <;> simp
  have hlock : (!(s.lockOn && decide (s.level .cue ≤ s.level src))) = true ↔
      ¬(s.lockOn = true ∧ s.level .cue ≤ s.level src) := by
    rw [Bool.not_eq_true', ← Bool.not_eq_true, Bool.and_eq_true, decide_eq_true_eq]
  rw [State.eligible, Bool.and_eq_true, Bool.and_eq_true, hlesson, Bool.or_eq_true, hlock, decide_eq_true_eq,
    decide_eq_true_eq, and_assoc]

theorem State.holds_iff (s : State) (src : Source) :
    s.holds src = true ↔ (s.place src).backup ≠ none ∨ (s.place src).pending ≠ [] := by
  simp [State.holds, State.place, Option.isSome_iff_ne_none]

theorem State.participates_iff (s : State) (src : Source) :
    s.participates src = true ↔ s.eligible src = true ∧ s.holds src = true :=
  Bool.and_eq_true_iff

/-! ### The choice (06 R108) -/

/-- `a` goes before `b`: it is more urgent, or as urgent and not behind it in the tie order. -/
def State.Precedes (s : State) (a b : Source) : Prop :=
  s.level a < s.level b ∨ (s.level a = s.level b ∧ tieOrder.idxOf a ≤ tieOrder.idxOf b)

theorem Source.getElem?_tieOrder (src : Source) : tieOrder[tieOrder.idxOf src]? = some src := by
  cases src <;> decide

theorem State.Precedes.refl (s : State) (a : Source) : s.Precedes a a := .inr ⟨rfl, Nat.le_refl _⟩

theorem State.Precedes.trans {s : State} {a b c : Source} (hab : s.Precedes a b) (hbc : s.Precedes b c) :
    s.Precedes a c := by
  unfold State.Precedes at *
  omega

theorem State.Precedes.antisymm {s : State} {a b : Source} (hab : s.Precedes a b) (hba : s.Precedes b a) : a = b := by
  have hplace : tieOrder.idxOf a = tieOrder.idxOf b := by
    unfold State.Precedes at hab hba
    omega
  have ha := a.getElem?_tieOrder
  rw [hplace, b.getElem?_tieOrder] at ha
  exact (Option.some.inj ha).symm

/-- Along a list in the tie order, the search ends at the source that goes before all. -/
theorem State.foldl_moreUrgent (s : State) (b : Source) (l : List Source)
    (h : (b :: l).Pairwise fun x y => tieOrder.idxOf x < tieOrder.idxOf y) :
    ∃ c ∈ b :: l, l.foldl s.moreUrgent (some b) = some c ∧ ∀ x ∈ b :: l, s.Precedes c x := by
  induction l generalizing b with
  | nil =>
    refine ⟨b, List.mem_singleton_self b, rfl, fun x hx => ?_⟩
    rw [List.mem_singleton.mp hx]
    exact .refl s b
  | cons a rest ih =>
    obtain ⟨hb, hrest⟩ := List.pairwise_cons.mp h
    obtain ⟨hba, hbrest⟩ := List.forall_mem_cons.mp hb
    rw [List.foldl_cons, State.moreUrgent]
    by_cases hlevel : s.level a < s.level b
    · rw [if_pos hlevel]
      obtain ⟨c, hc, hfold, hfirst⟩ := ih a hrest
      have hcb : s.Precedes c b := (hfirst a List.mem_cons_self).trans (.inl hlevel)
      exact ⟨c, List.mem_cons_of_mem _ hc, hfold, List.forall_mem_cons.mpr ⟨hcb, hfirst⟩⟩
    · rw [if_neg hlevel]
      obtain ⟨c, hc, hfold, hfirst⟩ := ih b (List.pairwise_cons.mpr ⟨hbrest, (List.pairwise_cons.mp hrest).2⟩)
      obtain ⟨hcb, hcrest⟩ := List.forall_mem_cons.mp hfirst
      have hbefore : s.Precedes b a := by
        unfold State.Precedes
        omega
      refine ⟨c, ?_, hfold, List.forall_mem_cons.mpr ⟨hcb, List.forall_mem_cons.mpr ⟨hcb.trans hbefore, hcrest⟩⟩⟩
      rcases List.mem_cons.mp hc with rfl | hmem
      · exact List.mem_cons_self
      · exact List.mem_cons_of_mem _ (List.mem_cons_of_mem _ hmem)

theorem State.mem_participants (s : State) (src : Source) :
    src ∈ tieOrder.filter s.participates ↔ s.participates src = true := by
  rw [List.mem_filter, and_iff_right src.mem_tieOrder]

/-- The participating sources stand in the tie order. -/
theorem State.participants_rise (s : State) :
    (tieOrder.filter s.participates).Pairwise fun a b => tieOrder.idxOf a < tieOrder.idxOf b :=
  List.Pairwise.filter _ (by decide)

/-- What the choice can be: none where none participates, else the participating source that goes before all others. -/
theorem State.choice_cases (s : State) :
    (s.choice = none ∧ ∀ src, s.participates src = false) ∨
      ∃ c, s.choice = some c ∧ s.participates c = true ∧ ∀ other, s.participates other = true → s.Precedes c other := by
  have hrise := s.participants_rise
  have hmem := s.mem_participants
  unfold State.choice
  cases hlist : tieOrder.filter s.participates with
  | nil =>
    refine .inl ⟨rfl, fun src => Bool.eq_false_iff.mpr fun hsrc => ?_⟩
    have hin := (hmem src).mpr hsrc
    rw [hlist] at hin
    cases hin
  | cons b l =>
    rw [hlist] at hrise hmem
    obtain ⟨c, hc, hfold, hfirst⟩ := s.foldl_moreUrgent b l hrise
    exact .inr ⟨c, hfold, (hmem c).mp hc, fun other hother => hfirst other ((hmem other).mpr hother)⟩

theorem State.choice_eq_some_iff (s : State) (src : Source) :
    s.choice = some src ↔
      s.participates src = true ∧ ∀ other, s.participates other = true → s.Precedes src other := by
  rcases s.choice_cases with ⟨hnone, hnobody⟩ | ⟨c, hsome, hc, hfirst⟩
  · rw [hnone, hnobody src]
    exact ⟨nofun, fun h => nomatch h.1⟩
  · rw [hsome]
    constructor
    · intro heq
      cases heq
      exact ⟨hc, hfirst⟩
    · rintro ⟨hsrc, hbest⟩
      rw [(hfirst src hsrc).antisymm (hbest c hc)]

theorem State.choice_eq_none_iff (s : State) : s.choice = none ↔ ∀ src, s.participates src = false := by
  rcases s.choice_cases with ⟨hnone, hnobody⟩ | ⟨c, hsome, hc, -⟩
  · exact ⟨fun _ => hnobody, fun _ => hnone⟩
  · rw [hsome]
    refine ⟨nofun, fun hnobody => ?_⟩
    rw [hnobody c] at hc
    cases hc

/-! ### The cut-in test (06 R111, R113) -/

theorem State.cutInAgainst_iff (s : State) (src : Source) :
    s.cutInAgainst src = true ↔
      ∃ c, s.participates c = true ∧ (s.arbiter.settings.get c).cutIn = true ∧ s.level c < s.level src := by
  simp [State.cutInAgainst, Source.mem_tieOrder, and_assoc]

theorem State.cutInTest_of_cutIn {s : State} {r : Running} (hr : s.arbiter.running = some r) (hplaying : r.state = .playing)
    (hcut : s.cutInAgainst r.utterance.source = true) :
    s.cutInTest = { s with
      arbiter := { s.arbiter with
        running := some { r with
          state := .fading .restore 0, utterance := { r.utterance with resume := r.cursor.index } } } } := by
  simp only [State.cutInTest, hr, hcut, if_true]
  rw [State.mapRunning_running _ hr, r.cutRestore_playing hplaying]

theorem State.cutInTest_of_no_cutIn {s : State}
    (h : ∀ r, s.arbiter.running = some r → r.state = .playing → s.cutInAgainst r.utterance.source = false) :
    s.cutInTest = s := by
  rcases s.cutInTest_cases with hsame | ⟨r, hr, hplaying, hcut, -⟩
  · exact hsame
  · rw [h r hr hplaying] at hcut
    cases hcut

/-- Settles O39: each clause is the lemma about its function. -/
theorem arbiterChoosesAndCutsIn : Obligations.ArbiterChoosesAndCutsIn := by
  refine ⟨fun s src => ?_, fun s src => ?_, State.choice_eq_some_iff, State.choice_eq_none_iff, fun s => ⟨?_, ?_⟩⟩
  · rw [s.eligible_iff, s.lockOn_iff]
    simp only [and_assoc]
  · rw [s.participates_iff, s.holds_iff]
  · intro r hr hplaying hcut
    exact State.cutInTest_of_cutIn hr hplaying ((s.cutInAgainst_iff _).mpr hcut)
  · intro h
    refine State.cutInTest_of_no_cutIn fun r hr hplaying => ?_
    exact Bool.eq_false_iff.mpr (mt (s.cutInAgainst_iff _).mp (h r hr hplaying))

end Sys2Proof.Machine
end

section
/-! PROOFS. The end of an utterance: what follows a running utterance's end (O42; 06 R117, 03 R57, R58) and what a fade's end
does (O43; 06 R112, R114, R115). -/

namespace Sys2Proof.Machine

/-! ### The end of a running utterance (06 R117) -/

theorem State.endRunning_eq (s : State) (u : Utterance) (e : EndKind) : s.endRunning u e = s.vacated.reportEnd u e := by
  rw [State.endRunning, s.vacate_eq]

/-- The end of a host utterance goes to the host or to nobody (05 R103). -/
theorem State.reportEnd_host (s : State) {u : Utterance} (e : EndKind) (h : u.source.isLesson = false) :
    s.reportEnd u e = if u.notify = true then s.raise (.said false [⟨u.tag, e⟩]) else s := by
  rw [State.reportEnd, if_neg (by simp [h])]

theorem State.reportEnd_lesson (s : State) {u : Utterance} (e : EndKind) (h : u.source.isLesson = true) :
    s.reportEnd u e =
      if s.cycle.phase = .feedback ∧ (u.kind = .feedback ∨ u.kind = .spellback) ∧ (e = .done ∨ e = .cut) then
        s.feedbackEnded
      else s := by
  rw [State.reportEnd, if_pos h, State.lessonEndReport]
  simp only [endActs, decide_eq_true_eq]

/-! ### What the end of a feedback moves (03 R57, R58) -/

theorem State.feedbackEnded_opened {s : State} (h : s.currentResult.state = .opened) :
    s.feedbackEnded = (s.putCycle { s.cycle with phase := .answering }).cueLoad 0 := by
  rw [State.feedbackEnded, h]

theorem State.feedbackEnded_settled {s : State} (h : s.currentResult.state = .exact ∨ s.currentResult.state = .missed) :
    s.feedbackEnded =
      if s.intake.settings.endHold = true then s.putCycle { s.cycle with phase := .held } else s.advance := by
  rcases h with h | h <;> rw [State.feedbackEnded, h]

/-- With nothing running, a load is the new timer alone. -/
theorem State.cueLoad_idle {s : State} (n : Nat) (h : s.arbiter.running = none) : s.cueLoad n = s.putCue (s.cue.loaded n) :=
  State.cutInTest_idle _ h

/-- Settles O42: the report of the end by the utterance's source, and the feedback's move by the word's record. -/
theorem endsAreReported : Obligations.EndsAreReported := by
  intro s u e acts settled
  have hreport : u.source.isLesson = true → acts → s.endRunning u e = s.vacated.feedbackEnded := fun hlesson hacts => by
    rw [s.endRunning_eq, State.reportEnd_lesson _ e hlesson]
    exact if_pos hacts
  have hmoves := fun hlesson hacts hsettled =>
    (hreport hlesson hacts).trans (State.feedbackEnded_settled (s := s.vacated) hsettled)
  refine ⟨fun hhost => ?_, fun hlesson hno => ?_, fun hlesson hacts hopened => ?_, fun hlesson hacts hsettled hhold => ?_,
    fun hlesson hacts hsettled hhold => ?_⟩
  · rw [s.endRunning_eq, State.reportEnd_host _ e hhost]
    rfl
  · rw [s.endRunning_eq, State.reportEnd_lesson _ e hlesson]
    exact if_neg hno
  · rw [hreport hlesson hacts, State.feedbackEnded_opened (s := s.vacated) hopened, State.cueLoad_idle 0 rfl]
    rfl
  · exact (hmoves hlesson hacts hsettled).trans (if_pos hhold)
  · rw [(hmoves hlesson hacts hsettled).trans (if_neg (Bool.eq_false_iff.mp hhold))]
    rcases s.vacated.advance_spec with ⟨hmore, hbegan⟩ | ⟨hlast, hended⟩
    · exact ⟨fun _ => hbegan, fun hno => absurd hmore (Nat.not_lt.mpr hno)⟩
    · exact ⟨fun hmore => absurd hmore (Nat.not_lt.mpr hlast), fun _ => hended⟩

/-! ### The end of a fade (06 R112, R114) -/

theorem Running.fadeDone_fading {r : Running} {k : FadeKind} {n : Nat} (h : r.state = .fading k n) :
    r.fadeDone = decide (32 ≤ n) := by
  rw [Running.fadeDone, h]
  rfl

/-- A fade whose samples have all been given is over; before that nothing occurs (log 3). -/
theorem execFadeEnd_fading {s : State} {r : Running} {k : FadeKind} {n : Nat} (hreset : s.resetLow = false)
    (hr : s.arbiter.running = some r) (hstate : r.state = .fading k n) :
    exec .fadeEnd s = .next (if 32 ≤ n then s.fadeOver r.utterance k else s) := by
  have hdone : (s.arbiter.running.map Running.fadeDone).getD false = decide (32 ≤ n) := by
    rw [hr, Option.map_some, Option.getD_some, Running.fadeDone_fading hstate]
  rw [exec, execFadeEnd, hdone]
  by_cases hn : 32 ≤ n
  · rw [State.occurs_of _ _ hreset (decide_eq_true hn), if_pos hn, hr]
    simp only [hstate]
  · rw [State.occurs_not _ _ (.inr (decide_eq_false hn)), if_neg hn]

theorem State.sameBut_vacated (s : State) : SameBut [.arbiter, .voice] s s.vacated :=
  ⟨rfl, rfl, fun b hb => by cases b <;> first | rfl | simp at hb⟩

/-- Settles O43: the fade's end by its kind. -/
theorem fadeEndRestoresOrEnds : Obligations.FadeEndRestoresOrEnds := by
  intro s r k n hreset hr hstate
  rw [execFadeEnd_fading hreset hr hstate]
  refine ⟨fun hn => ?_, ?_, ?_, ?_⟩
  · rw [if_neg (Nat.not_le.mpr hn)]
  · rintro hn rfl
    let back := s.putPlace r.utterance.source { s.place r.utterance.source with backup := some r.utterance }
    refine ⟨back.vacated, ?_, rfl, rfl, State.place_putPlace_self _ _ _, fun src hsrc => State.place_putPlace_ne _ _ hsrc,
      rfl, ?_⟩
    · rw [if_pos hn, State.fadeOver, State.vacate_eq]
    · exact ((s.sameBut_putPlace _ _).trans back.sameBut_vacated).mono (by decide)
  · rintro hn rfl
    rw [if_pos hn, State.fadeOver]
  · rintro hn rfl
    rw [if_pos hn, State.fadeOver]

end Sys2Proof.Machine
end

section
/-! PROOFS. Reaching items (08 R137 to R142): what an item resolves to, one equation for each thing that a reached item can be,
and what reaching does not look at. -/

namespace Sys2Proof.Machine

/-! ### What an item resolves to (08 R137 to R139) -/

theorem Voice.entry_of_getElem? {v : Voice} {sym : Nat} {e : MapEntry} (h : v.letterMap[sym - 1]? = some e) :
    v.entry sym = e := by
  rw [Voice.entry, List.getD_eq_getElem?_getD, h, Option.getD_some]

theorem State.wordField_of_current {s : State} {w : WordRecord} (f : WordRecord → Nat)
    (hlesson : s.cycle.lesson = .running ∨ s.cycle.lesson = .paused) (hw : s.cycle.words[s.cycle.index]? = some w) :
    s.wordField f = f w := by
  rw [State.wordField, if_pos ((LessonState.current_iff _).mpr hlesson), State.currentWord, hw]
  rfl

theorem State.wordField_of_not_current {s : State} (f : WordRecord → Nat) (hrunning : s.cycle.lesson ≠ .running)
    (hpaused : s.cycle.lesson ≠ .paused) : s.wordField f = 0 :=
  if_neg fun h => ((LessonState.current_iff _).mp h).elim hrunning hpaused

/-- What an item resolves to is read from the letter voice map, the echo style and the current word. -/
theorem State.resolve_congr {s t : State} (hmap : t.voice.letterMap = s.voice.letterMap)
    (hstyle : t.voice.echoStyle = s.voice.echoStyle) (hlesson : t.cycle.lesson = s.cycle.lesson)
    (hwords : t.cycle.words = s.cycle.words) (hindex : t.cycle.index = s.cycle.index) (item : Item) :
    t.resolve item = s.resolve item := by
  cases item with
  | clip n => rfl
  | letter sym =>
    rw [State.resolve, State.resolve, Voice.letterClip, Voice.letterClip, Voice.entry, Voice.entry, hmap, hstyle]
  | name sym => rw [State.resolve, State.resolve, Voice.entry, Voice.entry, hmap]
  | word | sentence =>
    rw [State.resolve, State.resolve, State.wordField, State.wordField, State.currentWord, State.currentWord, hlesson,
      hwords, hindex]
  | gap n => rfl

theorem State.trimSamples_congr {s t : State} (hmap : t.voice.letterMap = s.voice.letterMap) (item : Item) :
    t.trimSamples item = s.trimSamples item := by
  cases item with
  | letter sym | name sym => rw [State.trimSamples, State.trimSamples, Voice.entry, Voice.entry, hmap]
  | clip n | word | sentence | gap n => rfl

/-! ### The Bank Reader's reading of an entry -/

/-- Reading an entry changes at most the read command on SPI. -/
theorem State.readEntry_eq (s : State) (k : Nat) : ∃ spi, s.readEntry k = s.putBank { s.bank with spi := spi } := by
  unfold State.readEntry
  split
  · exact ⟨_, rfl⟩
  · exact ⟨s.bank.spi, rfl⟩

@[simp] theorem State.lookup_readEntry (s : State) (k j : Nat) : (s.readEntry k).bank.lookup j = s.bank.lookup j := by
  obtain ⟨spi, e⟩ := s.readEntry_eq k
  rw [e]
  rfl

@[simp] theorem State.readEntry_voice (s : State) (k : Nat) : (s.readEntry k).voice = s.voice := by
  obtain ⟨spi, e⟩ := s.readEntry_eq k
  rw [e, State.putBank_voice]

@[simp] theorem State.spiRead_readEntry (s : State) (k a : Nat) : (s.readEntry k).spiRead a = s.spiRead a := by
  obtain ⟨spi, e⟩ := s.readEntry_eq k
  rw [e]
  rfl

theorem State.readEntry_putArbiter (s : State) (a : Arbiter) (k : Nat) :
    (s.putArbiter a).readEntry k = (s.readEntry k).putArbiter a := by
  unfold State.readEntry
  rw [State.putArbiter_bank]
  split <;> rfl

/-! ### What a reached item does (08 R140 to R142) -/

section
variable {s : State} {item : Item} (i : Nat) (previous : Option ItemClass) (rest : List Item)

theorem State.reach_silence {n : Nat} (h : s.resolve item = .silence n) :
    s.reach i previous (item :: rest) = (s, some ⟨i, .gapItem, n, 0, 0, previous⟩) := by
  rw [State.reach, h]

theorem State.reach_skipped (h : s.resolve item = .clip 0) :
    s.reach i previous (item :: rest) = s.reach (i + 1) previous rest := by
  rw [State.reach, h]

theorem State.reach_bad {k : Nat} (h : s.resolve item = .clip (k + 1)) (hbad : s.bank.lookup (k + 1) = none) :
    s.reach i previous (item :: rest) =
      ((s.readEntry (k + 1)).raise (.fault (k + 1) 1)).reach (i + 1) previous rest := by
  rw [State.reach, h]
  simp only [State.lookup_readEntry, hbad]

/-- A good clip takes its automatic gap, else its samples past the trim, else nothing. -/
theorem State.reach_good {k start len : Nat} (h : s.resolve item = .clip (k + 1))
    (hgood : s.bank.lookup (k + 1) = some (start, len)) :
    s.reach i previous (item :: rest) =
      let trim := s.trimSamples item
      let gap := s.voice.gapSamples previous item
      if gap ≠ 0 then
        (s.readEntry (k + 1), some ⟨i, .automaticGap, gap, start + trim, len - trim, previous⟩)
      else if len - trim ≠ 0 then
        (s.spiRead (start + trim), some ⟨i, .clip, len - trim, start + trim, len - trim, previous⟩)
      else (s.readEntry (k + 1)).reach (i + 1) (some item.cls) rest := by
  have htrim : (s.readEntry (k + 1)).trimSamples item = s.trimSamples item :=
    State.trimSamples_congr (congrArg Voice.letterMap (s.readEntry_voice (k + 1))) item
  rw [State.reach, h]
  simp only [State.lookup_readEntry, hgood, htrim, State.readEntry_voice, State.spiRead_readEntry]

end

/-- Reaching neither looks at the arbiter nor changes it. -/
theorem State.reach_putArbiter (a : Arbiter) (i : Nat) (previous : Option ItemClass) (items : List Item) (s : State) :
    (s.putArbiter a).reach i previous items =
      ((s.reach i previous items).1.putArbiter a, (s.reach i previous items).2) := by
  induction items generalizing i previous s with
  | nil => rfl
  | cons item rest ih =>
    have hresolve : (s.putArbiter a).resolve item = s.resolve item := State.resolve_congr rfl rfl rfl rfl rfl item
    cases hr : s.resolve item with
    | silence n => rw [State.reach_silence _ _ _ (hresolve.trans hr), State.reach_silence _ _ _ hr]
    | clip k =>
      cases k with
      | zero => rw [State.reach_skipped _ _ _ (hresolve.trans hr), State.reach_skipped _ _ _ hr, ih]
      | succ k =>
        cases hlookup : s.bank.lookup (k + 1) with
        | none =>
          rw [State.reach_bad _ _ _ (hresolve.trans hr) hlookup, State.reach_bad _ _ _ hr hlookup, s.readEntry_putArbiter]
          exact ih _ _ ((s.readEntry (k + 1)).raise (.fault (k + 1) 1))
        | some found =>
          obtain ⟨start, len⟩ := found
          have htrim : (s.putArbiter a).trimSamples item = s.trimSamples item := State.trimSamples_congr rfl item
          rw [State.reach_good _ _ _ (hresolve.trans hr) hlookup, State.reach_good _ _ _ hr hlookup]
          simp only [htrim, State.putArbiter_voice, s.readEntry_putArbiter, ih]
          split
          · rfl
          · split <;> rfl

end Sys2Proof.Machine
end

section
/-! PROOFS. UTTERANCE_START (O40; 06 R108). A start leaves the source that was chosen without a rival (`cutInTest_started`), so
neither the load of the Cue Timer nor the start's own cut-in test begins a fade; with the reports made (`afterReports`) the
engine reaches the first item, or the utterance ends at once. -/

namespace Sys2Proof.Machine

/-! ### What the chosen source hands over -/

theorem Place.handOver_eq {p : Place} {u : Utterance} {tail : List Utterance} {fromList : Bool}
    (h : (p.backup = some u ∧ tail = p.pending ∧ fromList = false) ∨
      (p.backup = none ∧ p.pending = u :: tail ∧ fromList = true)) :
    p.handOver = some (u, fromList, ⟨tail, none⟩) := by
  rcases h with ⟨hbackup, rfl, rfl⟩ | ⟨hbackup, hpending, rfl⟩
  · rw [Place.handOver, hbackup]
  · rw [Place.handOver, hbackup, hpending]

/-! ### No rival of the chosen source -/

/-- What a start leaves: the operating state, the lesson state, the settings and the places of the other sources; the Cue Timer
changes only where it was STOPPED. -/
structure StartedFrom (s : State) (src : Source) (tail : List Utterance) (t : State) : Prop where
  op : t.op = s.op
  lesson : t.cycle.lesson = s.cycle.lesson
  settings : t.arbiter.settings = s.arbiter.settings
  cue : t.cue = s.cue ∨ s.cue.running = false
  places : t.sources.places = s.sources.places.set src ⟨tail, none⟩

theorem StartedFrom.level {s t : State} {src : Source} {tail : List Utterance} (h : StartedFrom s src tail t) (c : Source) :
    t.level c = s.level c := by
  rw [State.level, State.level, h.settings]

/-- A start makes no source eligible: the cue lock may go on and does not go off. -/
theorem StartedFrom.eligible {s t : State} {src : Source} {tail : List Utterance} (h : StartedFrom s src tail t) {c : Source}
    (hc : t.eligible c = true) : s.eligible c = true := by
  have hlock : s.lockOn = true → t.lockOn = true := by
    rcases h.cue with hcue | hstopped
    · rw [State.lockOn, State.lockOn, hcue]
      exact id
    · intro hon
      rw [s.lockOn_iff, hstopped] at hon
      exact absurd hon.1 (by decide)
  rw [State.eligible_iff] at hc ⊢
  obtain ⟨hop, hlesson, hfree⟩ := hc
  rw [h.op] at hop
  rw [h.lesson] at hlesson
  rw [h.level, h.level] at hfree
  exact ⟨hop, hlesson, hfree.imp_right fun hno hon => hno ⟨hlock hon.1, hon.2⟩⟩

theorem StartedFrom.participates {s t : State} {src : Source} {tail : List Utterance} (h : StartedFrom s src tail t)
    (hsrc : s.participates src = true) {c : Source} (hc : t.participates c = true) : s.participates c = true := by
  by_cases hne : c = src
  · rwa [hne]
  · rw [State.participates_iff] at hc ⊢
    have hholds : t.holds c = s.holds c := by
      unfold State.holds
      rw [h.places, PerSource.get_set_ne _ _ hne]
    exact ⟨h.eligible hc.1, hholds ▸ hc.2⟩

/-- The chosen source was the most urgent, so the cut-in test leaves its utterance alone. -/
theorem cutInTest_started {s t : State} {src : Source} {tail : List Utterance} (h : StartedFrom s src tail t)
    (hchoice : s.choice = some src) {r : Running} (hr : t.arbiter.running = some r) (hsource : r.utterance.source = src) :
    t.cutInTest = t := by
  obtain ⟨hsrc, hbest⟩ := (s.choice_eq_some_iff src).mp hchoice
  refine State.cutInTest_of_no_cutIn fun r' hr' _ => Bool.eq_false_iff.mpr fun hcut => ?_
  obtain rfl : r = r' := Option.some.inj (hr.symm.trans hr')
  obtain ⟨c, hc, -, hlevel⟩ := (t.cutInAgainst_iff _).mp hcut
  rw [hsource, h.level, h.level] at hlevel
  rcases hbest c (h.participates hsrc hc) with hmore | ⟨hsame, -⟩
  · omega
  · omega

/-! ### The reports of a start (03 R53; 05 R92) -/

/-- The part once the utterance has left its place and the reports are made, the running place apart. -/
def State.afterReports (s : State) (u : Utterance) (tail : List Utterance) (fromList : Bool) : State :=
  { s with
    sources := { s.sources with places := s.sources.places.set u.source ⟨tail, none⟩ }
    voice := { s.voice with amp := .active }
    cycle := if u.kind = .wordPrompt ∧ s.cycle.phase = .prompting then { s.cycle with phase := .answering } else s.cycle
    cue := if u.kind = .wordPrompt ∧ s.cycle.phase = .prompting then s.cue.loaded 0 else s.cue
    link :=
      if u.source = .queue ∧ fromList = true ∧ tail.length = s.arbiter.lowMark then
        s.link.raise (.queueLow tail.length)
      else s.link }

theorem State.afterReports_cycle (s : State) (u : Utterance) (tail : List Utterance) (fromList : Bool) :
    (s.afterReports u tail fromList).cycle = { s.cycle with
      phase := if u.kind = .wordPrompt ∧ s.cycle.phase = .prompting then .answering else s.cycle.phase } := by
  unfold State.afterReports
  split <;> rfl

/-- The reports leave what an item resolves to. -/
theorem State.resolve_afterReports (s : State) (u : Utterance) (tail : List Utterance) (fromList : Bool) (item : Item) :
    (s.afterReports u tail fromList).resolve item = s.resolve item := by
  have hcycle := s.afterReports_cycle u tail fromList
  refine State.resolve_congr (s := s) (t := s.afterReports u tail fromList) rfl rfl ?_ ?_ ?_ item <;> rw [hcycle]

/-- The running place as an utterance enters it, before its first item is reached. -/
def Running.entering (u : Utterance) : Running := ⟨u, .playing, ⟨u.resume, .gapItem, 0, 0, 0, none⟩⟩

/-- The utterance has left its place and entered the running place. -/
def State.entered (s : State) (u : Utterance) (tail : List Utterance) : State :=
  (s.putPlace u.source ⟨tail, none⟩).enterRunning u

@[simp] theorem State.entered_cycle (s : State) (u : Utterance) (tail : List Utterance) :
    (s.entered u tail).cycle = s.cycle := rfl

/-- The Cue Timer runs in phase ANSWERING alone. -/
theorem WordCycleLaw.stopped_of_prompting {s : State} (h : WordCycleLaw s) (hphase : s.cycle.phase = .prompting) :
    s.cue.running = false := by
  obtain ⟨-, -, -, -, -, hrunning, -⟩ := h
  exact Bool.eq_false_iff.mpr fun hon => by simpa [hphase] using hrunning hon

section
variable {s : State} {u : Utterance} {tail : List Utterance} {fromList : Bool} (hlaw : WordCycleLaw s)
  (hchoice : s.choice = some u.source)

include hlaw in
theorem State.startedFrom_afterReports (r : Option Running) :
    StartedFrom s u.source tail ((s.afterReports u tail fromList).putArbiter { s.arbiter with running := r }) where
  op := rfl
  lesson := by
    rw [State.putArbiter_cycle, State.afterReports_cycle]
  settings := rfl
  cue := by
    show (if _ then _ else _) = s.cue ∨ _
    split
    · next hfirst => exact .inr (WordCycleLaw.stopped_of_prompting hlaw hfirst.2)
    · exact .inl rfl
  places := rfl

include hlaw hchoice

/-- The report of a WORD_PROMPT (03 R53); a first one's load of the Cue Timer begins no fade. -/
theorem State.promptReport_eq :
    (if u.kind = .wordPrompt then (s.entered u tail).promptStarted else s.entered u tail) =
      ((s.afterReports u tail fromList).putArbiter { s.arbiter with running := some (.entering u) }).putLink s.link := by
  by_cases hfirst : u.kind = .wordPrompt ∧ s.cycle.phase = .prompting
  · obtain ⟨hkind, hphase⟩ := hfirst
    have hstarted : StartedFrom s u.source tail
        (((s.entered u tail).putCycle { s.cycle with phase := .answering }).putCue (s.cue.loaded 0)) :=
      ⟨rfl, rfl, rfl, .inr (WordCycleLaw.stopped_of_prompting hlaw hphase), rfl⟩
    rw [if_pos hkind, State.promptStarted, State.entered_cycle, if_pos hphase, State.cueLoad_eq]
    refine (cutInTest_started hstarted hchoice (r := .entering u) rfl rfl).trans ?_
    rw [State.afterReports, if_pos ⟨hkind, hphase⟩, if_pos ⟨hkind, hphase⟩]
    rfl
  · have hunreported : (if u.kind = .wordPrompt then (s.entered u tail).promptStarted else s.entered u tail) =
        s.entered u tail := by
      split
      · next hkind => exact if_neg fun hphase => hfirst ⟨hkind, hphase⟩
      · rfl
    rw [hunreported, State.afterReports, if_neg hfirst, if_neg hfirst]
    rfl

theorem State.startReports_eq :
    (s.entered u tail).startReports u fromList =
      (s.afterReports u tail fromList).putArbiter { s.arbiter with running := some (.entering u) } := by
  rw [State.startReports, State.promptReport_eq (fromList := fromList) hlaw hchoice]
  dsimp only
  rw [State.place_putLink, State.place_putArbiter, State.putLink_arbiter, State.putArbiter_arbiter]
  have hplace : u.source = .queue → (s.afterReports u tail fromList).place .queue = ⟨tail, none⟩ := fun hqueue => by
    rw [← hqueue]
    exact PerSource.get_set_self _ _ _
  by_cases hlow : u.source = .queue ∧ fromList = true ∧ tail.length = s.arbiter.lowMark
  · rw [hplace hlow.1, if_pos hlow, State.afterReports, if_pos hlow]
    rfl
  · have hno : ¬(u.source = .queue ∧ fromList = true ∧
        ((s.afterReports u tail fromList).place .queue).pending.length = s.arbiter.lowMark) := fun h =>
      hlow (by rwa [hplace h.1] at h)
    rw [if_neg hno, State.afterReports, if_neg hlow]
    rfl

end

/-! ### The start as a whole (06 R108, R117) -/

/-- Whether something runs is not for the test, an arrival, a load or a stop to change. -/
@[simp] theorem State.running_cutInTest_eq_none (s : State) :
    s.cutInTest.arbiter.running = none ↔ s.arbiter.running = none := by
  rcases s.cutInTest_cases with e | ⟨r, hr, -, -, e⟩
  · rw [e]
  · rw [e, hr]
    simp

@[simp] theorem State.running_cueLoad_eq_none (s : State) (n : Nat) :
    (s.cueLoad n).arbiter.running = none ↔ s.arbiter.running = none :=
  State.running_cutInTest_eq_none _

@[simp] theorem State.running_cueStop_eq_none (s : State) : s.cueStop.arbiter.running = none ↔ s.arbiter.running = none :=
  State.running_cutInTest_eq_none _

@[simp] theorem State.running_arrive_eq_none (s : State) (u : Utterance) :
    (s.arrive u).arbiter.running = none ↔ s.arbiter.running = none :=
  State.running_cutInTest_eq_none _

@[simp] theorem Arbiter.running_lessonSwept_eq_none (a : Arbiter) : a.lessonSwept.running = none ↔ a.running = none :=
  Option.map_eq_none_iff

theorem State.running_advance_eq_none (s : State) : s.advance.arbiter.running = none ↔ s.arbiter.running = none := by
  unfold State.advance
  split
  · simp [State.wordBegin]
  · simp [State.lessonFinish, State.raise]

theorem State.running_feedbackEnded_eq_none (s : State) :
    s.feedbackEnded.arbiter.running = none ↔ s.arbiter.running = none := by
  unfold State.feedbackEnded
  split
  · exact State.running_cueLoad_eq_none _ _
  · split
    · rfl
    · exact s.running_advance_eq_none
  · split
    · rfl
    · exact s.running_advance_eq_none
  · rfl
  · rfl

/-- After an end nothing runs, whatever the end moves. -/
theorem State.running_endRunning (s : State) (u : Utterance) (e : EndKind) : (s.endRunning u e).arbiter.running = none := by
  rw [s.endRunning_eq]
  unfold State.reportEnd State.lessonEndReport
  split
  · split
    · exact (State.running_feedbackEnded_eq_none _).mpr rfl
    · rfl
  · split <;> rfl

/-- The end of an utterance looks at the running place as it empties it, and not before. -/
theorem State.endRunning_putArbiter (s : State) (r : Option Running) (u : Utterance) (e : EndKind) :
    (s.putArbiter { s.arbiter with running := r }).endRunning u e = s.endRunning u e := rfl

theorem State.reach_arbiter (s : State) (i : Nat) (previous : Option ItemClass) (items : List Item) :
    (s.reach i previous items).1.arbiter = s.arbiter := by
  obtain ⟨spi, link, e, -⟩ := State.reach_eq i previous items s
  rw [e]

section
variable {s w : State} {u : Utterance} {tail : List Utterance} {fromList : Bool} (hreset : s.resetLow = false)
  (hidle : s.arbiter.running = none) (hchoice : s.choice = some u.source) (hlaw : WordCycleLaw s)
  (hhand : (s.place u.source).handOver = some (u, fromList, ⟨tail, none⟩))
include hreset hidle hchoice hlaw hhand

theorem execUtteranceStart_eq :
    exec .utteranceStart s = .next
      (((s.afterReports u tail fromList).putArbiter { s.arbiter with running := some (.entering u) }).playFrom
        u u.resume none).cutInTest := by
  rw [exec, execUtteranceStart, State.occurs_of _ _ hreset (by simp [hidle, hchoice]), hchoice]
  dsimp only
  rw [State.startFrom, hhand, ← State.startReports_eq hlaw hchoice]
  rfl

/-- An item is reached that takes time: the utterance plays it. -/
theorem execUtteranceStart_reached {c : Cursor}
    (hreach : (s.afterReports u tail fromList).reach u.resume none (u.items.drop u.resume) = (w, some c)) :
    exec .utteranceStart s = .next (w.putArbiter { s.arbiter with running := some ⟨u, .playing, c⟩ }) := by
  have hstarted : StartedFrom s u.source tail (w.putArbiter { s.arbiter with running := some ⟨u, .playing, c⟩ }) := by
    obtain ⟨spi, link, e, -⟩ := State.reach_eq u.resume none (u.items.drop u.resume) (s.afterReports u tail fromList)
    rw [hreach] at e
    dsimp only at e
    obtain ⟨hop, hlesson, hsettings, hcue, hplaces⟩ :=
      State.startedFrom_afterReports (u := u) (tail := tail) (fromList := fromList) hlaw (some ⟨u, .playing, c⟩)
    subst e
    exact ⟨hop, hlesson, hsettings, hcue, hplaces⟩
  rw [execUtteranceStart_eq hreset hidle hchoice hlaw hhand, State.playFrom, State.reach_putArbiter, hreach]
  exact congrArg Host.Outcome.next (cutInTest_started hstarted hchoice rfl rfl)

/-- No item is left: the utterance ends at its start (06 R117). -/
theorem execUtteranceStart_exhausted
    (hreach : (s.afterReports u tail fromList).reach u.resume none (u.items.drop u.resume) = (w, none)) :
    exec .utteranceStart s = .next (w.endRunning u .done) := by
  rw [execUtteranceStart_eq hreset hidle hchoice hlaw hhand, State.playFrom, State.reach_putArbiter, hreach]
  have harbiter : w.arbiter = s.arbiter := by
    have := State.reach_arbiter (s.afterReports u tail fromList) u.resume none (u.items.drop u.resume)
    rwa [hreach] at this
  dsimp only
  rw [← harbiter, State.endRunning_putArbiter, State.cutInTest_idle _ (w.running_endRunning u .done)]

end

/-- The first item reached takes time: a GAP, or a good clip longer than its trim, before which no automatic gap stands
(08 R141). -/
theorem State.reach_takesTime {s : State} {i : Nat} {item : Item} {c : Cursor} {spi : List Byte} (rest : List Item)
    (h : (∃ n, item = .gap n ∧ c = ⟨i, .gapItem, n * 80, 0, 0, none⟩ ∧ spi = s.bank.spi) ∨
      (∃ k start len, s.resolve item = .clip (k + 1) ∧ s.bank.lookup (k + 1) = some (start, len) ∧
        s.trimSamples item < len ∧
        c = ⟨i, .clip, len - s.trimSamples item, start + s.trimSamples item, len - s.trimSamples item, none⟩ ∧
        spi = readCommand (start + s.trimSamples item))) :
    s.reach i none (item :: rest) = (s.putBank { s.bank with spi := spi }, some c) := by
  rcases h with ⟨n, rfl, rfl, rfl⟩ | ⟨k, start, len, hclip, hgood, htrim, rfl, rfl⟩
  · exact State.reach_silence _ _ _ rfl
  · have hgap : s.voice.gapSamples none item = 0 := rfl
    rw [State.reach_good _ _ _ hclip hgood, hgap]
    exact (if_neg fun h => h rfl).trans (if_pos (Nat.sub_ne_zero_of_lt htrim))

/-- Settles O40: the item that takes time, the start's two outcomes, and the resolution item by item. -/
theorem utteranceStarts : Obligations.UtteranceStarts := by
  refine ⟨?_, ?_, fun s => ⟨fun n => ⟨rfl, rfl⟩, fun n => rfl, fun sym e _ he => ?_, fun w hlesson hw => ?_,
    fun hrunning hpaused => ?_, rfl, rfl⟩⟩
  · rintro s src u tail fromList item c spi hreset hidle hchoice hlaw rfl hplace hitem htime first
    obtain ⟨hlt, hget⟩ := List.getElem?_eq_some_iff.mp hitem
    have hreach : (s.afterReports u tail fromList).reach u.resume none (u.items.drop u.resume) =
        ((s.afterReports u tail fromList).putBank { s.bank with spi := spi }, some c) := by
      rw [List.drop_eq_getElem_cons hlt, hget]
      refine State.reach_takesTime _ ?_
      rw [State.resolve_afterReports, State.trimSamples_congr (t := s.afterReports u tail fromList) rfl]
      exact htime
    refine ⟨_, execUtteranceStart_reached hreset hidle hchoice hlaw (Place.handOver_eq hplace) hreach, ⟨rfl, rfl, ?_⟩,
      rfl, rfl, rfl, PerSource.get_set_self _ _ _, fun other hother => PerSource.get_set_ne _ _ hother, rfl, rfl, rfl, rfl⟩
    intro b hb
    cases b <;> first | rfl | simp at hb
  · rintro s src u tail fromList hreset hidle hchoice hlaw rfl hplace first v
    rcases hreach : v.reach u.resume none (u.items.drop u.resume) with ⟨w, _ | c⟩
    · exact execUtteranceStart_exhausted hreset hidle hchoice hlaw (Place.handOver_eq hplace) hreach
    · exact execUtteranceStart_reached hreset hidle hchoice hlaw (Place.handOver_eq hplace) hreach
  · rw [State.resolve, State.resolve, State.trimSamples, State.trimSamples, Voice.letterClip, Voice.entry_of_getElem? he]
    refine ⟨?_, rfl, rfl, rfl⟩
    cases s.voice.echoStyle with
    | names | sounds => rfl
    | perLetter => cases e.mode <;> rfl
  · rw [State.resolve, State.resolve, State.wordField_of_current _ hlesson hw, State.wordField_of_current _ hlesson hw]
    exact ⟨rfl, rfl⟩
  · rw [State.resolve, State.resolve, State.wordField_of_not_current _ hrunning hpaused,
      State.wordField_of_not_current _ hrunning hpaused]
    exact ⟨rfl, rfl⟩

end Sys2Proof.Machine
end

section
/-! PROOFS. Time and the Cue Timer (07): what the passing of 125 us on an empty queue leaves (log 4), when the timer is STOPPED,
COUNTING or FROZEN, and what its decrement and its expiry do. A COUNTING timer's speaker is idle (07 R124), so no cut-in test of
its steps has anything to cut. -/

namespace Sys2Proof.Machine

/-! ### Time on an empty queue (log 4) -/

theorem step_of_empty {s : State} (h : s.pending = []) : step s = .next s.passTime := by
  rw [step, h]

theorem State.passTime_of_reset {s : State} (h : s.resetLow = true) : s.passTime = s := if_pos h

/-- The inter-byte timer runs outside HUNT alone (09 R152). -/
theorem Assembler.tick_eq (a : Assembler) :
    a.tick = if a.state = .hunt then a else { a with timer := min Config.interByteTop (a.timer + 1) } := by
  unfold Assembler.tick
  cases a.state <;> rfl

theorem State.passTime_eq {s : State} (h : s.resetLow = false) :
    s.passTime = { s with
      cue := if s.timerState = .counting then s.cue.tick else s.cue
      voice := { s.voice with amp := s.voice.amp.tick }
      link := { s.link with assembler := s.link.assembler.tick } } := by
  rw [State.passTime, if_neg (by simp [h])]
  by_cases hcounting : s.timerState = .counting
  · simp only [if_pos hcounting]
    rfl
  · simp only [if_neg hcounting]
    rfl

/-- Settles O2: the three timers that gather the time, each by its tick. -/
theorem emptyQueueLetsTimePass : Obligations.EmptyQueueLetsTimePass := by
  intro s hempty
  rw [step_of_empty hempty]
  refine ⟨fun hlow => ?_, fun hhigh => ?_⟩
  · rw [State.passTime_of_reset hlow]
  · rw [State.passTime_eq hhigh, Assembler.tick_eq]
    rfl

/-! ### The timer's state (07 R123, R124) -/

/-- What a running timer needs to count (07 R124). -/
def State.timerFree (s : State) : Prop :=
  s.cycle.lesson = .running ∧ s.cycle.phase = .answering ∧ s.arbiter.running = none

theorem State.timerState_of_not_running {s : State} (h : s.cue.running = false) : s.timerState = .stopped := by
  simp [State.timerState, h]

theorem State.timerState_of_free {s : State} (h : s.cue.running = true) (hfree : s.timerFree) :
    s.timerState = .counting :=
  (if_pos h).trans (if_pos hfree)

theorem State.timerState_of_not_free {s : State} (h : s.cue.running = true) (hfree : ¬s.timerFree) :
    s.timerState = .frozen :=
  (if_pos h).trans (if_neg hfree)

/-- Each of the timer's states is had in its own case alone. -/
theorem State.timerState_iff (s : State) :
    (s.timerState = .stopped ↔ s.cue.running = false) ∧
      (s.timerState = .counting ↔ s.cue.running = true ∧ s.timerFree) ∧
      (s.timerState = .frozen ↔ s.cue.running = true ∧ ¬s.timerFree) := by
  cases hrunning : s.cue.running with
  | false => simp [State.timerState_of_not_running hrunning]
  | true =>
    by_cases hfree : s.timerFree
    · simp [State.timerState_of_free hrunning hfree, hfree]
    · simp [State.timerState_of_not_free hrunning hfree, hfree]

theorem State.idle_of_counting {s : State} (h : s.timerState = .counting) : s.arbiter.running = none := by
  obtain ⟨-, hcounting, -⟩ := s.timerState_iff
  obtain ⟨-, -, -, hidle⟩ := hcounting.mp h
  exact hidle

/-! ### The shared operations with an idle speaker -/

theorem State.cueStop_idle {s : State} (h : s.arbiter.running = none) : s.cueStop = s.putCue s.cue.stopped :=
  State.cutInTest_idle _ h

theorem State.arrive_idle {s : State} (u : Utterance) (h : s.arbiter.running = none) :
    s.arrive u = s.putPlace u.source { s.place u.source with pending := (s.place u.source).pending ++ [u] } :=
  State.cutInTest_idle _ h

/-! ### The placing of a cue (07 R128) -/

/-- The CUE_PROMPT of the phrase CUE and the current word waits in the CUE slot, and the word's record counts it. The timer's own
count of cues is not in it. -/
def State.withCuePlaced (s : State) : State :=
  (s.putPlace .cue { s.place .cue with pending := [partUtterance .cue .cuePrompt [s.phraseItem 5, .word]] }).mapResult
    s.cycle.index fun r => { r with cues := saturatingAdd 7 r.cues 1 }

theorem State.sameBut_withCuePlaced (s : State) : SameBut [.sources, .cycle] s s.withCuePlaced :=
  (s.sameBut_putPlace _ _).trans (State.sameBut_mapResult _ _ _)

theorem State.placeCue_occupied {s : State} (h : (s.place .cue).pending ≠ []) : s.placeCue = s :=
  if_neg (mt List.isEmpty_iff.mp h)

theorem State.placeCue_empty {s : State} (hidle : s.arbiter.running = none) (h : (s.place .cue).pending = []) :
    s.placeCue = s.withCuePlaced.putCue { s.cue with stretch := s.cue.stretch + 1 } := by
  rw [State.placeCue, if_pos (List.isEmpty_iff.mpr h), State.arrive_idle _ hidle]
  simp only [compose, h, List.nil_append]
  rfl

/-! ### The decrement and the expiry (07 R124, R128, R129) -/

theorem State.expire_at_limit {s : State} (hidle : s.arbiter.running = none) (h : s.cue.limit ≤ s.cue.stretch) :
    s.expire = (s.raise (.childIdle s.cycle.index)).putCue s.cue.stopped :=
  (if_neg (Nat.not_lt.mpr h)).trans (State.cueStop_idle hidle)

theorem State.expire_occupied {s : State} (hidle : s.arbiter.running = none) (h : s.cue.stretch < s.cue.limit)
    (hslot : (s.place .cue).pending ≠ []) : s.expire = s.putCue (s.cue.loaded s.cue.stretch) := by
  rw [State.expire, if_pos h, State.placeCue_occupied hslot]
  exact State.cueLoad_idle _ hidle

theorem State.expire_empty {s : State} (hidle : s.arbiter.running = none) (h : s.cue.stretch < s.cue.limit)
    (hslot : (s.place .cue).pending = []) :
    s.expire = s.withCuePlaced.putCue (s.cue.loaded (s.cue.stretch + 1)) := by
  rw [State.expire, if_pos h, State.placeCue_empty hidle hslot]
  exact State.cueLoad_idle _ hidle

section
variable {s : State} (hreset : s.resetLow = false) (hcounting : s.timerState = .counting)
include hreset hcounting

theorem execCueDecrement_of_counting (h : 2 ≤ s.cue.remaining) :
    exec .cueDecrement s = .next (s.putCue { s.cue with remaining := s.cue.remaining - 1, part := 0 }) := by
  rw [exec, execCueDecrement, State.occurs_of _ _ hreset (by simp [hcounting, h])]

theorem execCueExpiry_of_counting (h : s.cue.remaining = 1) : exec .cueExpiry s = .next s.expire := by
  rw [exec, execCueExpiry, State.occurs_of _ _ hreset (by simp [hcounting, h])]

end

/-- The decrement that brings the count to 0 is no step of its own (log 7). -/
theorem execCueDecrement_at_one {s : State} (h : s.cue.remaining = 1) : exec .cueDecrement s = .next s := by
  rw [exec, execCueDecrement, State.occurs_not _ _ (.inr (by simp [h]))]

/-- Settles O47: the timer's state by its cases; a COUNTING timer's decrement, and its expiry by the cue limit and the CUE
slot. -/
theorem cueTimerCountsAndExpires : Obligations.CueTimerCountsAndExpires := by
  refine ⟨fun s => s.timerState_iff, fun s hreset hcounting => ?_⟩
  have hidle := State.idle_of_counting hcounting
  have hexpiry := execCueExpiry_of_counting hreset hcounting
  refine ⟨execCueDecrement_of_counting hreset hcounting, execCueDecrement_at_one, fun hone hlimit => ?_,
    fun hone hbelow hslot => ?_, fun hone hbelow hslot => ⟨_, hexpiry hone, ?_⟩⟩
  · rw [hexpiry hone, State.expire_at_limit hidle hlimit]
    rfl
  · rw [hexpiry hone, State.expire_occupied hidle hbelow hslot]
    rfl
  · rw [State.expire_empty hidle hbelow hslot]
    have hframe := s.sameBut_withCuePlaced.trans (State.sameBut_putCue _ (s.cue.loaded (s.cue.stretch + 1)))
    exact ⟨hframe.mono (by simp), rfl, rfl, rfl, fun src hsrc => State.place_putPlace_ne s _ hsrc,
      State.place_putPlace_self s _ _⟩

end Sys2Proof.Machine
end

section
/-! PROOFS. No step writes the speech bank, and no step but SET_WINDOW and the pin reset lowers a tally (O60; 08 R133, 04 R79).
The two claims read four values of the state (`KeptView`): the bank's bytes and the three tallies. Nearly every operation leaves
the four, which one equation for each says; the Judge's completion and the guided check's refusal add to the tallies, and an
addition that stops at the top stays above every count that a tally can have. -/

namespace Sys2Proof.Machine

/-! ### What the two claims read -/

/-- The bytes of the speech bank and the tallies of the window. -/
structure KeptView where
  flash : List Host.Cell
  letterErrors : Nat
  attemptsJudged : Nat
  exactCount : Nat

def State.keptView (s : State) : KeptView where
  flash := s.bank.flash
  letterErrors := s.judge.letterErrors
  attemptsJudged := s.judge.attemptsJudged
  exactCount := s.judge.exactCount

/-- The tally `t` stands at `n` or above it, and `n` is a count that a tally can have (04 R79). -/
def TallyReached (n t : Nat) : Prop := n ≤ min Config.tallyTop t

/-- An addition that stops at the top goes no lower than a count below the top. -/
theorem TallyReached.add {n t : Nat} (h : TallyReached n t) (k : Nat) : TallyReached n (tallyAdd t k) := by
  unfold TallyReached at h ⊢
  unfold tallyAdd saturatingAdd
  omega

theorem TallyReached.le {n t : Nat} (h : TallyReached n t) : n ≤ t := Nat.le_trans h (Nat.min_le_right _ _)

theorem TallyReached.self {n : Nat} (h : n ≤ Config.tallyTop) : TallyReached n n := Nat.le_min.mpr ⟨h, Nat.le_refl n⟩

theorem TallyReached.zero (t : Nat) : TallyReached 0 t := Nat.zero_le _

/-- The same bytes, and no tally below the one before. -/
structure KeptView.Above (v w : KeptView) : Prop where
  flash : w.flash = v.flash
  letterErrors : TallyReached v.letterErrors w.letterErrors
  attemptsJudged : TallyReached v.attemptsJudged w.attemptsJudged
  exactCount : TallyReached v.exactCount w.exactCount

/-- The part still has the bytes of `v`, and its tallies have not fallen below those of `v`. -/
def State.Keeps (s : State) (v : KeptView) : Prop := v.Above s.keptView

/-! ### Operations that leave the four values -/

/-- A change of other blocks than the Judge and the Bank Reader. -/
theorem SameBut.keptView {bs : List Block} {s t : State} (h : SameBut bs s t) (hbs : .judge ∉ bs ∧ .bank ∉ bs) :
    t.keptView = s.keptView := by
  have hjudge : t.judge = s.judge := h.2.2 .judge hbs.1
  have hbank : t.bank = s.bank := h.2.2 .bank hbs.2
  rw [State.keptView, State.keptView, hjudge, hbank]

theorem WordBegan.keptView {s t : State} {i : Nat} (h : WordBegan s t i) : t.keptView = s.keptView := by
  obtain ⟨-, -, -, -, -, -, -, -, -, -, -, hframe⟩ := h
  exact hframe.keptView (by decide)

theorem LessonEnded.keptView {s t : State} (h : LessonEnded s t) : t.keptView = s.keptView := by
  obtain ⟨-, -, -, -, -, hframe⟩ := h
  exact hframe.keptView (by decide)

namespace State

variable (s : State)

theorem keptView_cutInTest : s.cutInTest.keptView = s.keptView := s.sameBut_cutInTest.keptView (by decide)

theorem keptView_arrive (u : Utterance) : (s.arrive u).keptView = s.keptView := (s.sameBut_arrive u).keptView (by decide)

theorem keptView_cueLoad (n : Nat) : (s.cueLoad n).keptView = s.keptView := (s.sameBut_cueLoad n).keptView (by decide)

theorem keptView_cueStop : s.cueStop.keptView = s.keptView := s.sameBut_cueStop.keptView (by decide)

theorem keptView_offer (e : KeyEvent) : (s.offer e).keptView = s.keptView := (s.offer_spec e).2.keptView (by decide)

theorem keptView_flushHost : s.flushHost.keptView = s.keptView := s.sameBut_flushHost.keptView (by decide)

theorem keptView_judged (v : Judgement) : (s.judged v).keptView = s.keptView := (s.judged_spec v).1.keptView (by decide)

theorem keptView_wordBegin (i : Nat) : (s.wordBegin i).keptView = s.keptView := (s.wordBegin_spec i).keptView

theorem keptView_advance : s.advance.keptView = s.keptView := by
  rcases s.advance_spec with ⟨-, hbegan⟩ | ⟨-, hended⟩
  · exact hbegan.keptView
  · exact hended.keptView

theorem keptView_promptStarted : s.promptStarted.keptView = s.keptView := by
  unfold promptStarted
  split
  · exact keptView_cueLoad _ 0
  · rfl

theorem keptView_feedbackEnded : s.feedbackEnded.keptView = s.keptView := by
  have hsettled : (if s.intake.settings.endHold then s.putCycle { s.cycle with phase := .held } else s.advance).keptView =
      s.keptView := by
    split
    · rfl
    · exact s.keptView_advance
  unfold feedbackEnded
  cases s.currentResult.state with
  | opened => exact keptView_cueLoad _ 0
  | exact => exact hsettled
  | missed => exact hsettled
  | unseen => rfl
  | skipped => rfl

theorem keptView_endRunning (u : Utterance) (e : EndKind) : (s.endRunning u e).keptView = s.keptView := by
  unfold endRunning reportEnd lessonEndReport
  split
  · split
    · exact keptView_feedbackEnded _
    · rfl
  · split <;> rfl

theorem keptView_hearRequest : s.hearRequest.keptView = s.keptView := by
  unfold hearRequest
  split
  · exact s.keptView_arrive _
  · rfl

/-- The Judge is given its record, and its tallies stay. -/
theorem keptView_judgingBegin : s.judgingBegin.keptView = s.keptView := keptView_cueStop _

theorem keptView_submit : s.submit.keptView = s.keptView := by
  unfold submit
  split
  · exact s.keptView_hearRequest
  · exact s.keptView_judgingBegin

theorem keptView_hint : s.hint.keptView = s.keptView := by
  unfold hint
  split
  · split
    · exact keptView_arrive _ _
    · exact keptView_arrive _ _
  · rfl

theorem keptView_letterTyped (sym : Nat) : (s.letterTyped sym).keptView = s.keptView := by
  unfold letterTyped
  split
  · exact (letterAppended_spec _ sym).1.keptView (by decide)
  · split <;> rfl

theorem keptView_rubout : s.rubout.keptView = s.keptView := by
  unfold rubout
  split <;> rfl

theorem keptView_stopLesson : s.stopLesson.keptView = s.keptView := keptView_cueStop _

theorem keptView_gotoWord (i : Nat) : (s.gotoWord i).keptView = s.keptView :=
  (keptView_wordBegin _ i).trans (keptView_cueStop _)

theorem keptView_startLesson (i : Nat) : (s.startLesson i).keptView = s.keptView := keptView_wordBegin _ i

theorem keptView_receive (b : Byte) : (s.receive b).keptView = s.keptView := by
  unfold receive offerFrame
  dsimp only
  split
  · rfl
  · split
    · rfl
    · split <;> rfl
  · rfl

theorem keptView_transmitted (f : OutFrame) : (s.transmitted f).keptView = s.keptView := by
  unfold transmitted
  split <;> rfl

/-- The Bank Reader's read commands leave the bank as it is (08 R133). -/
theorem keptView_reach (i : Nat) (previous : Option ItemClass) (items : List Item) :
    (s.reach i previous items).1.keptView = s.keptView := by
  obtain ⟨spi, link, e, -⟩ := reach_eq i previous items s
  rw [e]
  rfl

theorem keptView_playFrom (u : Utterance) (i : Nat) (previous : Option ItemClass) :
    (s.playFrom u i previous).keptView = s.keptView := by
  have hreach := s.keptView_reach i previous (u.items.drop i)
  unfold playFrom
  split
  · next t c e =>
    rw [e] at hreach
    exact hreach
  · next t e =>
    rw [e] at hreach
    exact (t.keptView_endRunning u .done).trans hreach

theorem keptView_startReports (u : Utterance) (fromPending : Bool) : (s.startReports u fromPending).keptView = s.keptView := by
  unfold startReports
  extract_lets a
  have ha : a.keptView = s.keptView := by
    unfold a
    split
    · exact s.keptView_promptStarted
    · rfl
  split <;> exact ha

theorem keptView_startFrom (src : Source) : (s.startFrom src).keptView = s.keptView := by
  unfold startFrom
  split
  · rfl
  · next u fromPending rest _ =>
    have hreports := keptView_startReports ((s.putPlace src rest).enterRunning u) u fromPending
    exact (keptView_cutInTest _).trans ((keptView_playFrom _ u u.resume none).trans hreports)

theorem keptView_nextStage (r : Running) : (s.nextStage r).keptView = s.keptView := by
  unfold nextStage
  split
  · split
    · rfl
    · exact s.keptView_playFrom _ _ _
  · exact s.keptView_playFrom _ _ _
  · exact s.keptView_playFrom _ _ _

theorem keptView_fadeOver (u : Utterance) (k : FadeKind) : (s.fadeOver u k).keptView = s.keptView := by
  cases k with
  | restore => rfl
  | discardCut => exact s.keptView_endRunning u .cut
  | discardStopped => exact s.keptView_endRunning u .stopped

theorem keptView_giveSample (r : Running) : (s.giveSample r).keptView = s.keptView := by
  unfold giveSample
  split <;> split <;> rfl

theorem keptView_placeCue : s.placeCue.keptView = s.keptView := by
  unfold placeCue
  split
  · exact s.keptView_arrive _
  · rfl

theorem keptView_expire : s.expire.keptView = s.keptView := by
  unfold expire
  split
  · exact (keptView_cueLoad _ _).trans s.keptView_placeCue
  · exact keptView_cueStop _

theorem keptView_dozeOff : s.dozeOff.keptView = s.keptView := by
  unfold dozeOff
  dsimp only
  split <;> rfl

end State

/-! ### Rows and their checks -/

/-- SET_WINDOW and the two rows of the pin reset, which clear the tallies (04 R80, 10 R167). -/
def ClearsTallies (c : Instr) : Prop := c = .pinReset ∨ c = .resetnRelease ∨ ∃ tag p, c = .setWindow tag p

/-- Nothing is asked of the tallies. -/
structure KeptView.FlashOnly (v : KeptView) : Prop where
  letterErrors : v.letterErrors = 0
  attemptsJudged : v.attemptsJudged = 0
  exactCount : v.exactCount = 0

namespace State.Keeps

variable {v : KeptView} {s t : State}

/-- An operation that leaves the four values. -/
theorem same (h : s.Keeps v) (e : t.keptView = s.keptView) : t.Keeps v := by
  rw [State.Keeps, e]
  exact h

/-- An operation that leaves the bytes, where nothing is asked of the tallies. -/
theorem cleared (h : s.Keeps v) (hv : v.FlashOnly) (e : t.bank.flash = s.bank.flash) : t.Keeps v where
  flash := e.trans h.flash
  letterErrors := hv.letterErrors ▸ .zero _
  attemptsJudged := hv.attemptsJudged ▸ .zero _
  exactCount := hv.exactCount ▸ .zero _

theorem putLink (h : s.Keeps v) (l : Link) : (s.putLink l).Keeps v := h

theorem takeFrame (h : s.Keeps v) {f : HostFrame} (ht : s.takeFrame f = some t) : t.Keeps v :=
  State.takeFrame_keeps (P := (·.Keeps v)) (fun _ l hu => hu.putLink l) h ht

theorem command (h : s.Keeps v) {k tag : Byte} {p : List Byte} {owner : State → Answer}
    (ho : ∀ u : State, u.Keeps v → (owner u).state.Keeps v) : After (·.Keeps v) (s.command k tag p owner) :=
  After.command (fun _ l hu => hu.putLink l) h ho

theorem check (h : s.Keeps v) {cond : Bool} {r : ResultCode} {k : Answer} (hk : k.state.Keeps v) :
    (s.check cond r k).state.Keeps v :=
  State.check_keeps (P := (·.Keeps v)) h fun _ => hk

theorem lessonSetting (h : s.Keeps v) {sizeOk valuesOk : Bool} {k : Answer} (hk : k.state.Keeps v) :
    (s.lessonSetting sizeOk valuesOk k).state.Keeps v :=
  h.check (h.check (h.check (h.check hk)))

theorem readyBare (h : s.Keeps v) {p : List Byte} {k : Answer} (hk : k.state.Keeps v) :
    (s.readyBare p k).state.Keeps v :=
  h.check (h.check hk)

theorem lessonCommand (h : s.Keeps v) {p : List Byte} {n : Nat} {lessonOk : Bool} {k : Answer} (hk : k.state.Keeps v) :
    (s.lessonCommand p n lessonOk k).state.Keeps v :=
  h.check (h.check (h.check hk))

theorem sayChecks (h : s.Keeps v) {p : List Byte} {room : Bool} {r : ResultCode} {k : Answer} (hk : k.state.Keeps v) :
    (s.sayChecks p room r k).state.Keeps v :=
  h.check (h.check (h.check (h.check hk)))

theorem releaseCommand (h : s.Keeps v) {target : Nat} {tag : Byte} {p : List Byte} {owner : State → Answer}
    (ho : ∀ u : State, u.Keeps v → (owner u).state.Keeps v) :
    After (·.Keeps v) (s.releaseCommand target tag p owner) := by
  unfold State.releaseCommand
  split
  · exact h.command fun u hu => hu.check (hu.check (hu.check (ho u hu)))
  · exact .next h

theorem occurs (h : s.Keeps v) {cond : Bool} {f : State → State} (hf : cond = true → (f s).Keeps v) :
    After (·.Keeps v) (s.occurs cond f) :=
  After.occurs h hf

/-! ### The two rows that count (04 R79) -/

/-- A completion adds to the tallies, where its word lies in the window. -/
theorem tally (h : s.Keeps v) (x : Judgement) : (s.putJudge (s.judge.tally x)).Keeps v := by
  unfold Judge.tally
  split
  · refine ⟨h.flash, h.letterErrors.add _, h.attemptsJudged.add _, ?_⟩
    show TallyReached _ (if x.verdict = .exact then tallyAdd s.judge.exactCount 1 else s.judge.exactCount)
    split
    · exact h.exactCount.add _
    · exact h.exactCount
  · exact h

/-- A refusal by the guided check is a letter error, where the word lies in the window (02 R27). -/
theorem countRefusal (h : s.Keeps v) : s.countRefusal.Keeps v := by
  refine ⟨h.flash, ?_, h.attemptsJudged, h.exactCount⟩
  show TallyReached _ (if _ then _ else _)
  split
  · exact h.letterErrors.add _
  · exact h.letterErrors

theorem guidedRefusal (h : s.Keeps v) : s.guidedRefusal.Keeps v := by
  rw [s.guidedRefusal_eq]
  split
  · exact h.countRefusal.same (State.keptView_arrive _ _)
  · exact h.countRefusal

theorem execJudgingComplete (h : s.Keeps v) : After (·.Keeps v) (execJudgingComplete s) := by
  refine h.occurs fun _ => ?_
  split
  · exact h
  · exact (h.tally _).same (State.keptView_judged _ _)

theorem execTakeLetter (h : s.Keeps v) : After (·.Keeps v) (execTakeLetter s) := by
  refine h.occurs fun _ => ?_
  split
  · exact h
  · dsimp only
    split
    · exact h.same (s.popHead.keptView_letterTyped _)
    · exact guidedRefusal (s := s.popHead) h

/-! ### The other rows -/

theorem execResetnRelease (h : s.Keeps v) (hv : v.FlashOnly) : After (·.Keeps v) (execResetnRelease s) := by
  unfold Machine.execResetnRelease
  split
  · exact .next (h.cleared hv rfl)
  · exact .next h

/-- The scanner changes, and where the change makes an event it is offered to the ring (01 R5, R6). -/
theorem scannerEvent (h : s.Keeps v) (k : Scanner) (makes : Bool) (e : KeyEvent) :
    (if makes then (s.putScanner k).offer e else s.putScanner k).Keeps v := by
  split
  · exact h.same (State.keptView_offer _ e)
  · exact h

theorem execTakePass (h : s.Keeps v) : After (·.Keeps v) (execTakePass s) := by
  refine h.occurs fun _ => ?_
  split
  · exact h
  · dsimp only
    split <;> exact h

theorem execTakeSpace (h : s.Keeps v) : After (·.Keeps v) (execTakeSpace s) := by
  refine h.occurs fun _ => ?_
  split
  · exact h.same s.popHead.keptView_submit
  · exact h

theorem execUtteranceStart (h : s.Keeps v) : After (·.Keeps v) (execUtteranceStart s) := by
  refine h.occurs fun _ => ?_
  split
  · exact h
  · exact h.same (s.keptView_startFrom _)

theorem execStageEnd (h : s.Keeps v) : After (·.Keeps v) (execStageEnd s) := by
  refine h.occurs fun _ => ?_
  split
  · exact h
  · exact h.same (s.keptView_nextStage _)

theorem execFadeEnd (h : s.Keeps v) : After (·.Keeps v) (execFadeEnd s) := by
  refine h.occurs fun _ => ?_
  split
  · exact h
  · split
    · exact h
    · exact h.same (s.keptView_fadeOver _ _)

theorem execSamplePeriod (h : s.Keeps v) : After (·.Keeps v) (execSamplePeriod s) := by
  refine h.occurs fun _ => ?_
  split
  · exact h
  · exact h.same (s.keptView_giveSample _)

theorem execTransmitComplete (h : s.Keeps v) : After (·.Keeps v) (execTransmitComplete s) := by
  refine h.occurs fun _ => ?_
  split
  · exact h
  · exact h.same (s.keptView_transmitted _)

theorem execUnknownCommand (h : s.Keeps v) (k tag : Byte) (p : List Byte) :
    After (·.Keeps v) (execUnknownCommand k tag p s) := by
  unfold Machine.execUnknownCommand
  split
  · exact .next h
  · exact h.command fun _ hu => hu

theorem execBegin (h : s.Keeps v) (tag : Byte) (p : List Byte) : After (·.Keeps v) (execBegin tag p s) := by
  unfold Machine.execBegin
  split
  · exact .next h
  · next t ht =>
    have ht : t.Keeps v := h.takeFrame ht
    split
    · exact .next ht
    · split <;> exact .next ht

/-- The bank check reads the bank, and sets what the part knows of it (08 R134). -/
theorem execBankCheckComplete (h : s.Keeps v) : After (·.Keeps v) (execBankCheckComplete s) := by
  refine h.occurs fun _ => ?_
  dsimp only
  split <;> exact h

/-- RESET keeps the bank and, with the settings, the tallies (10 R166). -/
theorem execReset (h : s.Keeps v) (tag : Byte) (p : List Byte) : After (·.Keeps v) (execReset tag p s) := by
  unfold Machine.execReset
  split
  · exact .next h
  · next t ht =>
    have ht : t.Keeps v := h.takeFrame ht
    split <;> exact .next ht

theorem execDoze (h : s.Keeps v) (tag : Byte) (p : List Byte) : After (·.Keeps v) (execDoze tag p s) := by
  unfold Machine.execDoze
  split
  · exact .next h
  · next t ht =>
    have ht : t.Keeps v := h.takeFrame ht
    split
    · exact .next ht
    · split
      · exact .next ht
      · split
        · exact .next (ht.same (State.keptView_dozeOff _))
        · exact .next ht

/-! ### Every row -/

theorem exec (h : s.Keeps v) (c : Instr) (hclear : ClearsTallies c → v.FlashOnly) : After (·.Keeps v) (exec c s) := by
  unfold Machine.exec
  cases c with
  | pinReset => exact .next (h.cleared (hclear (.inl rfl)) rfl)
  | resetnRelease => exact h.execResetnRelease (hclear (.inr (.inl rfl)))
  | scan | wakingPress | discardHead | cueDecrement | ampHoldEnd | interByteTimeout | transmitBegin =>
    exact h.occurs fun _ => h
  | pressIntervalComplete | releaseIntervalComplete => exact h.occurs fun _ => h.scannerEvent _ _ _
  | takePass => exact h.execTakePass
  | takeLetter => exact h.execTakeLetter
  | takeRubout => exact h.occurs fun _ => h.same ((State.keptView_cueLoad _ _).trans s.popHead.keptView_rubout)
  | takeGo => exact h.occurs fun _ => h.same s.popHead.keptView_submit
  | takeSpace => exact h.execTakeSpace
  | takeHear => exact h.occurs fun _ => h.same s.popHead.keptView_hearRequest
  | takeHint => exact h.occurs fun _ => h.same s.popHead.keptView_hint
  | judgingComplete => exact h.execJudgingComplete
  | utteranceStart => exact h.execUtteranceStart
  | stageEnd => exact h.execStageEnd
  | fadeEnd => exact h.execFadeEnd
  | cueExpiry => exact h.occurs fun _ => h.same s.keptView_expire
  | frameReceived | receivedByte => exact h.occurs fun _ => h.same (s.keptView_receive _)
  | transmitComplete => exact h.execTransmitComplete
  | samplePeriod => exact h.execSamplePeriod
  | unknownCommand kind tag payload => exact h.execUnknownCommand kind tag payload
  | begin tag payload => exact h.execBegin tag payload
  | bankCheckComplete => exact h.execBankCheckComplete
  | reset tag payload => exact h.execReset tag payload
  | doze tag payload => exact h.execDoze tag payload
  | status | setPhrases => exact h.command fun _ hu => hu.check hu
  | wake | setVoice => exact h.command fun _ hu => hu.check (hu.check hu)
  | setKeys | getResults => exact h.command fun _ hu => hu.check (hu.check (hu.check hu))
  | setIntake | setLetters | setPairs | setCue | setJudge => exact h.command fun _ hu => hu.lessonSetting hu
  | setSources => exact h.command fun _ hu => hu.lessonSetting (hu.same (State.keptView_cutInTest _))
  | loadWords => exact h.command fun _ hu => hu.check (hu.check (hu.check (hu.check (hu.check hu))))
  | clearWords => exact h.command fun _ hu => hu.readyBare (hu.check hu)
  | start => exact h.command fun u hu => hu.lessonCommand (hu.check (hu.same (u.keptView_startLesson _)))
  | pause => exact h.command fun _ hu => hu.lessonCommand hu
  | resume => exact h.command fun _ hu => hu.lessonCommand (hu.same (State.keptView_cutInTest _))
  | stop => exact h.command fun u hu => hu.lessonCommand (hu.same u.keptView_stopLesson)
  | goto => exact h.command fun u hu => hu.lessonCommand (hu.check (hu.same (u.keptView_gotoWord _)))
  | releaseLetter | releasePass => exact h.releaseCommand fun _ hu => hu.check hu
  | releaseWord => exact h.releaseCommand fun u hu => hu.check (hu.same u.keptView_advance)
  | setWindow tag payload =>
    have hv := hclear (.inr (.inr ⟨tag, payload, rfl⟩))
    exact h.command fun _ hu => hu.check (hu.check (hu.check (hu.cleared hv rfl)))
  | getAttempt | getTally | cut => exact h.command fun _ hu => hu.readyBare hu
  | say | sayNow => exact h.command fun u hu => hu.sayChecks (hu.same (u.keptView_arrive _))
  | flush => exact h.command fun u hu => hu.readyBare (hu.same u.keptView_flushHost)

end State.Keeps

/-- Settles O60: every row keeps the bytes, with nothing asked of the tallies, and every row that does not clear the tallies
keeps them from falling, for they stand within their top. -/
theorem bankAndTalliesAreKept : Obligations.BankAndTalliesAreKept := by
  intro c s t hstep
  refine ⟨?_, fun hsettings hpin hrelease hwindow => ?_⟩
  · have hflash : s.Keeps ⟨s.bank.flash, 0, 0, 0⟩ := ⟨rfl, .zero _, .zero _, .zero _⟩
    exact (hflash.exec c (fun _ => ⟨rfl, rfl, rfl⟩) t hstep).flash
  · obtain ⟨-, -, -, -, ⟨hletters, hjudged, hexact⟩, -⟩ := hsettings
    have hstands : s.Keeps s.keptView := ⟨rfl, .self hletters, .self hjudged, .self hexact⟩
    have hno : ¬ClearsTallies c := fun h => h.elim hpin fun h => h.elim hrelease fun ⟨tag, p, e⟩ => hwindow tag p e
    have hkept := hstands.exec c (absurd · hno) t hstep
    exact ⟨hkept.letterErrors.le, hkept.attemptsJudged.le, hkept.exactCount.le⟩

end Sys2Proof.Machine
end

section
/-! PROOFS. The end of a stage (O41; 08 R133, R135, R138 to R142). A stage's end goes on in one place (`nextStage_moves`): the
engine reaches the items left, and what it finds there is said form by form by the lemmas on reaching items. -/

namespace Sys2Proof.Machine

/-! ### The lookup of a clip (08 R133, R135) -/

theorem entryAddress_succ (k : Nat) : entryAddress (k + 1) = 16 + 5 * k := rfl

theorem flashField_two (m : List Host.Cell) (a : Nat) :
    flashField m a 2 = (flashRead m a).toNat + 256 * (flashRead m (a + 1)).toNat := rfl

theorem flashField_three (m : List Host.Cell) (a : Nat) :
    flashField m a 3 =
      (flashRead m a).toNat + 256 * (flashRead m (a + 1)).toNat + 65536 * (flashRead m (a + 2)).toNat := by
  show (flashRead m a).toNat + 256 * ((flashRead m (a + 1)).toNat + 256 * (flashRead m (a + 2)).toNat) = _
  omega

/-- A clip is bad for one of four reasons. -/
theorem Bank.lookup_eq (b : Bank) (k : Nat) :
    b.lookup k =
      let start := flashField b.flash (entryAddress k) 3
      let length := flashField b.flash (entryAddress k + 3) 2
      if b.clipCount < k ∨ length = 0 ∨ b.size < start + length ∨ start < directoryEnd b.clipCount then none
      else some (start, length) := by
  unfold Bank.lookup
  dsimp only
  split
  · next hgood => exact (if_neg (by omega)).symm
  · next hbad => exact (if_pos (by omega)).symm

/-- A good clip has an entry in the directory. -/
theorem Bank.le_clipCount_of_lookup {b : Bank} {k : Nat} {found : Nat × Nat} (h : b.lookup k = some found) :
    k ≤ b.clipCount := by
  rw [Bank.lookup_eq] at h
  dsimp only at h
  refine Nat.le_of_not_lt fun hlt => ?_
  rw [if_pos (.inl hlt)] at h
  cases h

theorem State.readEntry_of_le {s : State} {k : Nat} (h : k + 1 ≤ s.bank.clipCount) :
    s.readEntry (k + 1) = s.spiRead (16 + 5 * k) := if_pos h

theorem State.readEntry_succ (s : State) (k : Nat) :
    s.readEntry (k + 1) = s.putBank { s.bank with
      spi := if k + 1 ≤ s.bank.clipCount then readCommand (16 + 5 * k) else s.bank.spi } := by
  unfold State.readEntry
  split <;> rfl

/-! ### Automatic gaps (08 R141) -/

/-- An item that resolves to a clip is no GAP. -/
theorem State.cls_ne_gapItem {s : State} {item : Item} {k : Nat} (h : s.resolve item = .clip k) : item.cls ≠ .gapItem := by
  cases item with
  | gap n => cases h
  | clip | letter | name | word | sentence => exact nofun

/-- The gap before a clip item, by the class of the previous item and by its own. -/
theorem Voice.gapSamples_eq (v : Voice) (previous : Option ItemClass) {item : Item} (h : item.cls ≠ .gapItem) :
    v.gapSamples previous item =
      if previous = none ∨ previous = some .gapItem then 0
      else if item.cls = .letterItem then
        (if previous = some .letterItem then v.letterGap * 80 else v.leadGap * 80)
      else v.itemGap * 80 := by
  unfold Voice.gapSamples
  cases hcls : item.cls with
  | gapItem => exact absurd hcls h
  | letterItem | otherClip =>
    rcases previous with _ | _ | _ | _ <;> rfl

/-! ### What a good clip takes (08 R139, R141) -/

section
variable {s : State} {item : Item} {k start len : Nat} (i : Nat) (previous : Option ItemClass) (rest : List Item)
  (hclip : s.resolve item = .clip (k + 1)) (hgood : s.bank.lookup (k + 1) = some (start, len))
include hclip hgood

theorem State.reach_gap (hgap : s.voice.gapSamples previous item ≠ 0) :
    s.reach i previous (item :: rest) =
      (s.spiRead (16 + 5 * k), some ⟨i, .automaticGap, s.voice.gapSamples previous item, start + s.trimSamples item,
        len - s.trimSamples item, previous⟩) := by
  rw [State.reach_good _ _ _ hclip hgood, State.readEntry_of_le (Bank.le_clipCount_of_lookup hgood)]
  exact if_pos hgap

theorem State.reach_sounds (hgap : s.voice.gapSamples previous item = 0) (htrim : s.trimSamples item < len) :
    s.reach i previous (item :: rest) =
      (s.spiRead (start + s.trimSamples item), some ⟨i, .clip, len - s.trimSamples item, start + s.trimSamples item,
        len - s.trimSamples item, previous⟩) := by
  rw [State.reach_good _ _ _ hclip hgood]
  exact (if_neg (not_not_intro hgap)).trans (if_pos (Nat.sub_ne_zero_of_lt htrim))

theorem State.reach_covered (hgap : s.voice.gapSamples previous item = 0) (htrim : len ≤ s.trimSamples item) :
    s.reach i previous (item :: rest) = (s.spiRead (16 + 5 * k)).reach (i + 1) (some item.cls) rest := by
  rw [State.reach_good _ _ _ hclip hgood, State.readEntry_of_le (Bank.le_clipCount_of_lookup hgood)]
  exact (if_neg (not_not_intro hgap)).trans (if_neg (not_not_intro (Nat.sub_eq_zero_of_le htrim)))

end

/-! ### Items that are all skipped (08 R140, 06 R117) -/

/-- What an item left out reports: FAULT for a bad clip, nothing for clip 0. -/
def State.skipReport (s : State) (l : Link) (item : Item) : Link :=
  match s.resolve item with
  | .clip (k + 1) => l.raise (.fault (k + 1) 1)
  | .clip 0 => l
  | .silence _ => l

/-- The item is passed over: clip 0, or a bad clip. -/
def State.Skips (s : State) (item : Item) : Prop :=
  s.resolve item = .clip 0 ∨ ∃ k, s.resolve item = .clip (k + 1) ∧ s.bank.lookup (k + 1) = none

/-- With every item left skipped the engine reaches none, and each bad clip has raised its FAULT in order. -/
theorem State.reach_all_skipped {items : List Item} {s : State} (i : Nat) (previous : Option ItemClass)
    (h : ∀ item ∈ items, s.Skips item) :
    ∃ spi, s.reach i previous items =
      ((s.putBank { s.bank with spi := spi }).putLink (items.foldl s.skipReport s.link), none) := by
  induction items generalizing i s with
  | nil => exact ⟨s.bank.spi, rfl⟩
  | cons item rest ih =>
    obtain ⟨hitem, hrest⟩ := List.forall_mem_cons.mp h
    rcases hitem with hskip | ⟨k, hclip, hbad⟩
    · obtain ⟨spi, e⟩ := ih (i + 1) hrest
      refine ⟨spi, ?_⟩
      rw [State.reach_skipped _ _ _ hskip, e, List.foldl_cons, State.skipReport, hskip]
    · rw [State.reach_bad _ _ _ hclip hbad, s.readEntry_succ, List.foldl_cons]
      generalize (if k + 1 ≤ s.bank.clipCount then readCommand (16 + 5 * k) else s.bank.spi) = spi
      let t := (s.putBank { s.bank with spi := spi }).raise (.fault (k + 1) 1)
      have hresolve : ∀ x, t.resolve x = s.resolve x := State.resolve_congr rfl rfl rfl rfl rfl
      have hreport : t.skipReport = s.skipReport := by
        funext l x
        rw [State.skipReport, State.skipReport, hresolve]
      have hlink : s.skipReport s.link item = t.link := by
        rw [State.skipReport, hclip]
        rfl
      obtain ⟨spi', e⟩ := ih (s := t) (i + 1) fun x hx => by
        rw [State.Skips, hresolve]
        exact hrest x hx
      refine ⟨spi', e.trans ?_⟩
      rw [hreport, hlink]
      rfl

/-! ### What follows a stage (08 R142) -/

section
variable {s : State} {r : Running}

theorem execStageEnd_of (hreset : s.resetLow = false) (hr : s.arbiter.running = some r) (hplaying : r.state = .playing)
    (hleft : r.cursor.samplesLeft = 0) : exec .stageEnd s = .next (s.nextStage r) := by
  have hover : (s.arbiter.running.map Running.stageOver).getD false = true := by
    simp [hr, Running.stageOver, hplaying, hleft]
  rw [exec, execStageEnd, State.occurs_of _ _ hreset hover, hr]

/-- After an automatic gap its clip sounds. -/
theorem State.nextStage_clip (hr : s.arbiter.running = some r) (hstage : r.cursor.stage = .automaticGap)
    (hlength : r.cursor.clipLength ≠ 0) :
    s.nextStage r = { s with
      bank := { s.bank with spi := readCommand r.cursor.bankPosition }
      arbiter := { s.arbiter with
        running := some { r with cursor := { r.cursor with stage := .clip, samplesLeft := r.cursor.clipLength } } } } := by
  rw [State.nextStage, hstage]
  exact (if_pos hlength).trans (State.mapRunning_running (s := s.spiRead _) _ hr)

/-- Else the engine goes on to the items left. -/
theorem State.nextStage_moves (h : r.cursor.stage ≠ .automaticGap ∨ r.cursor.clipLength = 0) :
    s.nextStage r =
      s.playFrom r.utterance (r.cursor.index + 1) ((r.utterance.items[r.cursor.index]?).map Item.cls) := by
  unfold State.nextStage
  split
  · next hstage => exact if_neg fun hlength => h.elim (· hstage) hlength
  · rfl
  · rfl

/-- The running utterance takes the cursor that the engine reaches, or ends. -/
theorem State.playFrom_eq (hr : s.arbiter.running = some r) (u : Utterance) (i : Nat) (previous : Option ItemClass) :
    s.playFrom u i previous =
      match s.reach i previous (u.items.drop i) with
      | (w, some c) => { w with arbiter := { s.arbiter with running := some { r with cursor := c } } }
      | (w, none) => w.endRunning u .done := by
  have harbiter := s.reach_arbiter i previous (u.items.drop i)
  unfold State.playFrom
  generalize s.reach i previous (u.items.drop i) = reached at harbiter ⊢
  rcases reached with ⟨w, _ | c⟩
  · rfl
  · have hsame : w.arbiter = s.arbiter := harbiter
    show w.setCursor c = { w with arbiter := { s.arbiter with running := some { r with cursor := c } } }
    rw [State.setCursor, State.mapRunning_running _ (hsame ▸ hr), hsame]

/-- The end of a stage that no clip waits behind. -/
theorem execStageEnd_moves (hreset : s.resetLow = false) (hr : s.arbiter.running = some r) (hplaying : r.state = .playing)
    (hleft : r.cursor.samplesLeft = 0) (h : r.cursor.stage ≠ .automaticGap ∨ r.cursor.clipLength = 0) :
    exec .stageEnd s = .next
      (match s.reach (r.cursor.index + 1) ((r.utterance.items[r.cursor.index]?).map Item.cls)
          (r.utterance.items.drop (r.cursor.index + 1)) with
      | (w, some c) => { w with arbiter := { s.arbiter with running := some { r with cursor := c } } }
      | (w, none) => w.endRunning r.utterance .done) := by
  rw [execStageEnd_of hreset hr hplaying hleft, State.nextStage_moves h, State.playFrom_eq hr]

end

/-- Settles O41: what follows a stage, what a reached item is, and the lookup. -/
theorem stageEndMovesOn : Obligations.StageEndMovesOn := by
  refine ⟨fun s r hreset hr hplaying hleft => ⟨fun hstage hlength => ?_, ?_⟩,
    fun s r hreset hr hplaying hleft => execStageEnd_moves hreset hr hplaying hleft, ?_,
    fun s i previous items h => State.reach_all_skipped i previous h, fun b k => ?_⟩
  · rw [execStageEnd_of hreset hr hplaying hleft, State.nextStage_clip hr hstage hlength]
  · intro hstage i previous
    rw [execStageEnd_moves hreset hr hplaying hleft hstage]
    have hdrop : ∀ item, r.utterance.items[i]? = some item →
        r.utterance.items.drop i = item :: r.utterance.items.drop (i + 1) := fun item hitem => by
      obtain ⟨hlt, hget⟩ := List.getElem?_eq_some_iff.mp hitem
      rw [List.drop_eq_getElem_cons hlt, hget]
    refine ⟨fun hlast => ?_, fun n hitem => ?_, fun item k start len hitem hclip hgood htrim => ?_⟩
    · rw [List.drop_eq_nil_of_le hlast, State.reach]
    · rw [hdrop _ hitem, State.reach_silence _ _ _ rfl]
      rfl
    · intro left gap
      have hgap : s.voice.gapSamples previous item = gap := s.voice.gapSamples_eq previous (State.cls_ne_gapItem hclip)
      rw [hdrop _ hitem]
      by_cases hzero : gap = 0
      · rw [State.reach_sounds _ _ _ hclip hgood (hgap.trans hzero) htrim, if_pos hzero, if_pos hzero]
        rfl
      · rw [State.reach_gap _ _ _ hclip hgood (hgap ▸ hzero), hgap, if_neg hzero, if_neg hzero]
        rfl
  · intro s i previous item rest reached gap
    refine ⟨fun n hitem => ?_, fun hskip => State.reach_skipped _ _ _ hskip, fun k hclip hbad => ?_,
      fun k start len hclip hgood => ?_⟩
    · subst hitem
      exact State.reach_silence _ _ _ rfl
    · exact (State.reach_bad _ _ _ hclip hbad).trans (by rw [s.readEntry_succ]; rfl)
    · intro trim looked
      have hgap : s.voice.gapSamples previous item = gap := s.voice.gapSamples_eq previous (State.cls_ne_gapItem hclip)
      refine ⟨fun hpos => ?_, fun hzero htrim => ?_, fun hzero htrim => ?_⟩
      · rw [← hgap] at hpos ⊢
        exact State.reach_gap _ _ _ hclip hgood hpos
      · exact State.reach_sounds _ _ _ hclip hgood (hgap.trans hzero) htrim
      · exact State.reach_covered _ _ _ hclip hgood (hgap.trans hzero) htrim
  · rw [Bank.lookup_eq, entryAddress_succ, flashField_three, flashField_two]
    rfl

end Sys2Proof.Machine
end

section
/-! PROOFS. The sample period and the end of the AMP hold (O44; 08 R143 to R145): the cursor's move and the sample it stands at,
each read by one condition, the codes with the manual's floor, and what one period gives to a running utterance. -/

namespace Sys2Proof.Machine

/-! ### The cursor (06 R106) -/

/-- A sample is read while a clip has samples left; else the engine speaks silence. -/
theorem State.cursorSample_eq (s : State) (c : Cursor) :
    s.cursorSample c =
      if c.stage = .clip ∧ c.samplesLeft ≠ 0 then (flashRead s.bank.flash c.bankPosition).toInt else 0 := by
  unfold State.cursorSample
  cases c.stage with
  | clip => by_cases hleft : c.samplesLeft = 0 <;> simp [hleft]
  | automaticGap | gapItem => simp

/-- Every period counts the stage down, and a period that read a sample goes on to the next one. -/
theorem Cursor.advance_eq (c : Cursor) :
    c.advance = { c with
      samplesLeft := c.samplesLeft - 1
      bankPosition := if c.stage = .clip ∧ c.samplesLeft ≠ 0 then c.bankPosition + 1 else c.bankPosition } := by
  obtain ⟨index, stage, left, position, length, previous⟩ := c
  cases stage with
  | clip => cases left <;> simp [Cursor.advance]
  | automaticGap | gapItem => simp [Cursor.advance]

/-! ### The codes (08 R143, R144) -/

theorem playCode_eq (x : Int) (gain : Nat) :
    playCode x gain = (max (-512) (min 511 ((x * gain + 16).fdiv 32)) + 512).toNat := by
  rw [playCode, codeOf, Int.fdiv_eq_ediv_of_nonneg _ (by decide)]

theorem fadeCode_succ (x : Int) (gain n : Nat) :
    fadeCode x gain (n + 1) =
      (max (-512) (min 511 ((x * gain * (32 - ((n : Int) + 1)) + 512).fdiv 1024)) + 512).toNat := by
  rw [fadeCode, codeOf, Int.fdiv_eq_ediv_of_nonneg _ (by decide), Int.natCast_succ]

/-! ### One sample period -/

theorem execSamplePeriod_idle {s : State} (hreset : s.resetLow = false) (hidle : s.arbiter.running = none) :
    exec .samplePeriod s = .next (s.putVoice { s.voice with output := 512 }) := by
  rw [exec, execSamplePeriod, State.occurs_of _ _ hreset rfl, hidle]
  rfl

theorem execSamplePeriod_running {s : State} {r : Running} (hreset : s.resetLow = false)
    (hr : s.arbiter.running = some r) : exec .samplePeriod s = .next (s.giveSample r) := by
  rw [exec, execSamplePeriod, State.occurs_of _ _ hreset rfl, hr]

section
variable {s : State} {r : Running} (hr : s.arbiter.running = some r)
include hr

theorem State.giveSample_playing (hplaying : r.state = .playing) (hleft : r.cursor.samplesLeft ≠ 0) :
    s.giveSample r = { s with
      voice := { s.voice with output := playCode (s.cursorSample r.cursor) s.voice.gain }
      arbiter := { s.arbiter with running := some { r with cursor := r.cursor.advance } } } := by
  have hgiven : s.giveSample r =
      (s.putVoice { s.voice with output := playCode (s.cursorSample r.cursor) s.voice.gain }).setCursor
        r.cursor.advance := by
    rw [State.giveSample, hplaying]
    exact if_neg hleft
  rw [hgiven]
  exact State.mapRunning_running (s := s.putVoice _) _ hr

theorem State.giveSample_fading {k : FadeKind} {n : Nat} (hfading : r.state = .fading k n) (hn : n < 32) :
    s.giveSample r = { s with
      voice := { s.voice with output := fadeCode (s.cursorSample r.cursor) s.voice.gain (n + 1) }
      arbiter := { s.arbiter with
        running := some { r with state := .fading k (n + 1), cursor := r.cursor.advance } } } := by
  rw [State.giveSample, hfading]
  exact (if_pos hn).trans (State.mapRunning_running (s := s.putVoice _) _ hr)

end

theorem execAmpHoldEnd_holding {s : State} {n : Nat} (hreset : s.resetLow = false) (hamp : s.voice.amp = .holding n) :
    exec .ampHoldEnd s = .next (s.putVoice { s.voice with amp := .inactive }) := by
  rw [exec, execAmpHoldEnd, State.occurs_of _ _ hreset (by rw [hamp, Amp.isHolding])]

/-- Settles O44: silence, the playing and the fading sample with the cursor's move, and the hold's end. -/
theorem samplesAndAmpHold : Obligations.SamplesAndAmpHold := by
  refine ⟨fun s hreset hidle => execSamplePeriod_idle hreset hidle, ?_,
    fun s n hreset hamp => execAmpHoldEnd_holding hreset hamp⟩
  intro s r hreset hr g clipSample held moved
  have hsample : s.cursorSample r.cursor = clipSample := s.cursorSample_eq r.cursor
  have hmoved : r.cursor.advance = moved := r.cursor.advance_eq
  rw [execSamplePeriod_running hreset hr]
  refine ⟨fun hplaying hleft => ?_, fun k n hfading hn => ?_⟩
  · rw [State.giveSample_playing hr hplaying hleft, hsample, hmoved, playCode_eq]
  · rw [State.giveSample_fading hr hfading hn, hsample, hmoved, fadeCode_succ]

end Sys2Proof.Machine
end

section
/-! PROOFS. What the blocks' own work can do to the Link Port (09 R158, R160): raises and changes of the receive assembler, in a
chain (`Link.Raised`). The laws of the link read four values of the state besides (`PortView`); `State.Works` says what a row's
work makes of them, and each shared operation has its one lemma here. -/

namespace Sys2Proof.Machine

/-! ### Chains of raises -/

/-- A notice as a block raises it: one entry at most in its list (02 R32, 05 R103), and marks for a word's symbols (03 R39). -/
def Notice.Fresh : Notice → Prop
  | .keyPass _ es => es.length ≤ 1
  | .said _ es => es.length ≤ 1
  | .wordJudged r _ => r.marks.length ≤ 20
  | _ => True

/-- `m` is `l` after a chain of raises and of changes of the receive assembler. The notices are fresh where `short` holds. -/
inductive Link.Raised (short : Prop) (l : Link) : Link → Prop
  | none : Raised short l l
  | assembler {m : Link} (h : Raised short l m) (a : Assembler) : Raised short l { m with assembler := a }
  | raise {m : Link} (h : Raised short l m) {n : Notice} (hn : short → n.Fresh) : Raised short l (m.raise n)

namespace Link.Raised

variable {p q : Prop} {l m n : Link}

theorem trans (h : l.Raised p m) (k : m.Raised q n) (hpq : p → q) : l.Raised p n := by
  induction k with
  | none => exact h
  | assembler _ a ih => exact ih.assembler a
  | raise _ hfresh ih => exact ih.raise fun hp => hfresh (hpq hp)

theorem begun (h : l.Raised p m) : m.begun = l.begun := by
  induction h with
  | none => rfl
  | assembler _ _ ih => exact ih
  | raise _ _ ih => rw [Link.raise_begun, ih]

theorem replyPlacesUsed (h : l.Raised p m) : m.replyPlacesUsed = l.replyPlacesUsed := by
  induction h with
  | none => rfl
  | assembler _ _ ih => exact ih
  | raise _ _ ih => rw [Link.raise_replyPlacesUsed, ih]

end Link.Raised

/-! ### What the laws of the link read -/

/-- The values that the outbox law and the frame law read. -/
structure PortView where
  link : Link
  op : OpState
  words : List WordRecord
  working : Option JudgingRecord

def State.portView (s : State) : PortView where
  link := s.link
  op := s.op
  words := s.cycle.words
  working := s.judge.working

/-- The spellings of the word table and of the Judge's work have at most 20 symbols (03 R39). -/
structure State.ShortSpellings (s : State) : Prop where
  words : ∀ w ∈ s.cycle.words, w.spelling.length ≤ 20
  working : ∀ r, s.judge.working = some r → r.target.length ≤ 20

/-- From `s` to `t` the blocks did their work: the Link Port saw raises alone, SETUP was not left, and spellings stayed short. -/
structure State.Works (s t : State) : Prop where
  link : s.link.Raised s.ShortSpellings t.link
  setup : s.op = .setup → t.op = .setup
  short : s.ShortSpellings → t.ShortSpellings

theorem State.shortSpellings_of_view {s t : State} (h : s.ShortSpellings) (hwords : t.cycle.words = s.cycle.words)
    (hworking : t.judge.working = s.judge.working) : t.ShortSpellings :=
  ⟨hwords ▸ h.words, hworking ▸ h.working⟩

theorem State.ShortSpellings.target {s : State} (h : s.ShortSpellings) : s.target.length ≤ 20 := by
  unfold State.target State.currentWord
  cases hword : s.cycle.words[s.cycle.index]? with
  | none => exact Nat.zero_le _
  | some w => exact h.words w (List.mem_of_getElem? hword)

/-! ### Operations that leave the four values -/

theorem SameBut.portView {bs : List Block} {s t : State} (h : SameBut bs s t)
    (hbs : .link ∉ bs ∧ .op ∉ bs ∧ .cycle ∉ bs ∧ .judge ∉ bs) : t.portView = s.portView := by
  obtain ⟨hlink, hop, hcycle, hjudge⟩ := hbs
  have elink : t.link = s.link := h.2.2 .link hlink
  have eop : t.op = s.op := h.2.2 .op hop
  have ecycle : t.cycle = s.cycle := h.2.2 .cycle hcycle
  have ejudge : t.judge = s.judge := h.2.2 .judge hjudge
  rw [State.portView, State.portView, elink, eop, ecycle, ejudge]

theorem WordBegan.portView {s t : State} {i : Nat} (h : WordBegan s t i) : t.portView = s.portView := by
  obtain ⟨hcycle, -, -, -, -, -, -, -, -, -, -, -, -, hblocks⟩ := h
  have elink : t.link = s.link := hblocks .link (by simp)
  have eop : t.op = s.op := hblocks .op (by simp)
  have ejudge : t.judge = s.judge := hblocks .judge (by simp)
  rw [State.portView, State.portView, elink, eop, hcycle, ejudge]

namespace State

variable (s : State)

theorem portView_cutInTest : s.cutInTest.portView = s.portView := s.sameBut_cutInTest.portView (by decide)

theorem portView_arrive (u : Utterance) : (s.arrive u).portView = s.portView := (s.sameBut_arrive u).portView (by decide)

theorem portView_cueLoad (n : Nat) : (s.cueLoad n).portView = s.portView := (s.sameBut_cueLoad n).portView (by decide)

theorem portView_cueStop : s.cueStop.portView = s.portView := s.sameBut_cueStop.portView (by decide)

theorem portView_wordBegin (i : Nat) : (s.wordBegin i).portView = s.portView := (s.wordBegin_spec i).portView

theorem portView_startLesson (i : Nat) : (s.startLesson i).portView = s.portView := portView_wordBegin _ i

theorem portView_promptStarted : s.promptStarted.portView = s.portView := by
  unfold promptStarted
  split
  · exact portView_cueLoad _ 0
  · rfl

theorem portView_hearRequest : s.hearRequest.portView = s.portView := by
  unfold hearRequest
  split
  · exact s.portView_arrive _
  · rfl

theorem portView_hint : s.hint.portView = s.portView := by
  unfold hint
  split
  · split
    · exact portView_arrive _ _
    · exact portView_arrive _ _
  · rfl

theorem portView_guidedRefusal : s.guidedRefusal.portView = s.portView := by
  rw [guidedRefusal_eq]
  split
  · exact portView_arrive _ _
  · rfl

theorem portView_letterAppended (sym : Nat) : (s.letterAppended sym).portView = s.portView :=
  (s.letterAppended_spec sym).1.portView (by decide)

theorem portView_rubout : s.rubout.portView = s.portView := by
  rw [rubout_eq]
  rfl

theorem portView_judged (v : Judgement) : (s.judged v).portView = s.portView := by
  obtain ⟨hframe, hcycle, -⟩ := s.judged_spec v
  have elink : (s.judged v).link = s.link := hframe.2.2 .link (by simp)
  have eop : (s.judged v).op = s.op := hframe.2.2 .op (by simp)
  have ejudge : (s.judged v).judge = s.judge := hframe.2.2 .judge (by simp)
  rw [portView, portView, elink, eop, hcycle, ejudge]

theorem portView_placeCue : s.placeCue.portView = s.portView := by
  unfold placeCue
  split
  · exact s.portView_arrive _
  · rfl

theorem portView_giveSample (r : Running) : (s.giveSample r).portView = s.portView := by
  unfold giveSample
  split <;> split <;> rfl

theorem portView_readEntry (k : Nat) : (s.readEntry k).portView = s.portView := by
  obtain ⟨spi, e⟩ := s.readEntry_eq k
  rw [e]
  rfl

end State

/-! ### Work in a chain -/

namespace State.Works

variable {s t u : State}

/-- The Link Port saw raises, and the other three values are the same. -/
theorem of_link (hlink : s.link.Raised s.ShortSpellings t.link) (hop : t.op = s.op)
    (hwords : t.cycle.words = s.cycle.words) (hworking : t.judge.working = s.judge.working) : s.Works t :=
  ⟨hlink, fun h => hop.trans h, fun h => State.shortSpellings_of_view h hwords hworking⟩

theorem same (e : t.portView = s.portView) : s.Works t := by
  obtain ⟨hlink, hop, hwords, hworking⟩ := PortView.mk.inj e
  exact of_link (hlink ▸ .none) hop hwords hworking

theorem refl (s : State) : s.Works s := same rfl

theorem trans (h : s.Works t) (k : t.Works u) : s.Works u :=
  ⟨h.link.trans k.link h.short, fun hs => k.setup (h.setup hs), fun hs => k.short (h.short hs)⟩

/-- Work goes on with an operation that leaves the four values. -/
theorem andSame (h : s.Works t) (e : u.portView = t.portView) : s.Works u := h.trans (same e)

/-- A notice is raised that is fresh where the spellings were short at the start of the work. -/
theorem andRaiseOf (h : s.Works t) {n : Notice} (hn : s.ShortSpellings → n.Fresh) : s.Works (t.raise n) :=
  ⟨h.link.raise hn, h.setup, fun hs => State.shortSpellings_of_view (h.short hs) rfl rfl⟩

theorem andRaise (h : s.Works t) {n : Notice} (hn : n.Fresh) : s.Works (t.raise n) := h.andRaiseOf fun _ => hn

/-- The Judge takes up work on the current word, or none. -/
theorem setWorking (s : State) {j : Judge} (hj : s.ShortSpellings → ∀ r, j.working = some r → r.target.length ≤ 20) :
    s.Works (s.putJudge j) :=
  ⟨.none, id, fun h => ⟨h.words, hj h⟩⟩

/-! ### The word cycle (03) -/

theorem lessonFinish (s : State) : s.Works s.lessonFinish := by
  let finished := s.sweep.cueStop.putCycle { s.sweep.cueStop.cycle with phase := .none, lesson := .finished }
  have hfinished : s.Works finished := same (State.portView_cueStop s.sweep)
  exact hfinished.andRaise (n := lessonEndNotice finished.cycle.results) trivial

theorem advance (s : State) : s.Works s.advance := by
  unfold State.advance
  split
  · exact same (s.portView_wordBegin _)
  · exact lessonFinish s

theorem feedbackEnded (s : State) : s.Works s.feedbackEnded := by
  have hsettled : s.Works (if s.intake.settings.endHold then s.putCycle { s.cycle with phase := .held } else s.advance) := by
    split
    · exact same rfl
    · exact advance s
  unfold State.feedbackEnded
  cases s.currentResult.state with
  | opened => exact same (State.portView_cueLoad _ 0)
  | exact => exact hsettled
  | missed => exact hsettled
  | unseen => exact refl s
  | skipped => exact refl s

theorem endRunning (s : State) (x : Utterance) (e : EndKind) : s.Works (s.endRunning x e) := by
  have hvacated : s.Works s.vacate := same rfl
  unfold State.endRunning State.reportEnd State.lessonEndReport
  split
  · split
    · exact hvacated.trans (feedbackEnded _)
    · exact hvacated
  · split
    · exact hvacated.andRaise (Nat.le_refl 1)
    · exact hvacated

theorem abandonJudging (s : State) : s.Works s.abandonJudging := setWorking s fun _ _ h => nomatch h

theorem stopLesson (s : State) : s.Works s.stopLesson := (abandonJudging s).andSame (State.portView_cueStop _)

theorem gotoWord (s : State) (i : Nat) : s.Works (s.gotoWord i) :=
  (abandonJudging s).andSame ((State.portView_wordBegin _ i).trans (State.portView_cueStop _))

/-! ### The Key Intake and the Key Ring (01, 02) -/

theorem offer (s : State) (e : KeyEvent) : s.Works (s.offer e) := by
  have hring : ∀ b, s.Works (s.putRing b) := fun b => same rfl
  unfold State.offer
  split
  · exact refl s
  · split
    · exact hring _
    · exact (hring _).andRaise (n := .ringOverrun _) trivial

/-- The scanner changes, and where the change makes an event it is offered to the ring (01 R5, R6). -/
theorem scannerEvent (s : State) (k : Scanner) (makes : Bool) (e : KeyEvent) :
    s.Works (if makes then (s.putScanner k).offer e else s.putScanner k) := by
  have hscanner : s.Works (s.putScanner k) := same rfl
  split
  · exact hscanner.trans (offer _ e)
  · exact hscanner

/-- The wake is told, and SETUP is not where it happens (10 R169). -/
theorem wakeUp (h : s.op ≠ .setup) : s.Works s.wakeUp :=
  ⟨Link.Raised.none.raise fun _ => trivial, fun hs => absurd hs h, fun hs => ⟨hs.words, hs.working⟩⟩

theorem judgingBegin (s : State) : s.Works s.judgingBegin := by
  let counted := s.mapResult s.cycle.index fun r => { r with tries := r.tries + 1 }
  let dropped := counted.putPlace .verdict (counted.place .verdict).dropAsides
  have hdropped : s.Works dropped := same rfl
  have hworking : dropped.Works (dropped.putJudge { dropped.judge with working := some dropped.judgingRecord }) :=
    setWorking _ fun hshort r hr => by
      cases hr
      exact hshort.target
  exact (hdropped.trans hworking).andSame (State.portView_cueStop _)

theorem submit (s : State) : s.Works s.submit := by
  unfold State.submit
  split
  · exact same s.portView_hearRequest
  · exact judgingBegin s

theorem letterTyped (s : State) (sym : Nat) : s.Works (s.letterTyped sym) := by
  have hintake : ∀ b, s.Works (s.putIntake b) := fun b => same rfl
  unfold State.letterTyped
  split
  · exact (hintake _).andSame (State.portView_letterAppended _ sym)
  · split
    · exact refl s
    · exact (hintake _).andRaise (n := .attemptFull _) trivial

/-! ### The engine (06, 08) -/

/-- The engine reports each bad clip that it passes over (08 R140). -/
theorem reach (s : State) (i : Nat) (previous : Option ItemClass) (items : List Item) :
    s.Works (s.reach i previous items).1 := by
  induction items generalizing i previous s with
  | nil => exact refl s
  | cons item rest ih =>
    cases hclip : s.resolve item with
    | silence n => rw [State.reach_silence _ _ _ hclip]; exact refl s
    | clip k =>
      cases k with
      | zero => rw [State.reach_skipped _ _ _ hclip]; exact ih s _ _
      | succ k =>
        have hread : s.Works (s.readEntry (k + 1)) := same (s.portView_readEntry _)
        cases hlookup : s.bank.lookup (k + 1) with
        | none =>
          rw [State.reach_bad _ _ _ hclip hlookup]
          exact (hread.andRaise (n := .fault _ _) trivial).trans (ih _ _ _)
        | some found =>
          obtain ⟨start, len⟩ := found
          rw [State.reach_good _ _ _ hclip hlookup]
          dsimp only
          split
          · exact hread
          · split
            · exact same rfl
            · exact hread.trans (ih _ _ _)

theorem playFrom (s : State) (x : Utterance) (i : Nat) (previous : Option ItemClass) : s.Works (s.playFrom x i previous) := by
  have hreach := reach s i previous (x.items.drop i)
  unfold State.playFrom
  split
  · next t c e =>
    rw [e] at hreach
    exact hreach.andSame rfl
  · next t e =>
    rw [e] at hreach
    exact hreach.trans (endRunning t x .done)

theorem startReports (s : State) (x : Utterance) (fromPending : Bool) : s.Works (s.startReports x fromPending) := by
  unfold State.startReports
  extract_lets a
  have ha : s.Works a := by
    unfold a
    split
    · exact same s.portView_promptStarted
    · exact refl s
  split
  · exact ha.andRaise (n := .queueLow _) trivial
  · exact ha

theorem startFrom (s : State) (src : Source) : s.Works (s.startFrom src) := by
  unfold State.startFrom
  split
  · exact refl s
  · next x fromPending rest _ =>
    have hentered : s.Works ((s.putPlace src rest).enterRunning x) := same rfl
    exact ((hentered.trans (startReports _ x fromPending)).trans (playFrom _ x x.resume none)).andSame
      (State.portView_cutInTest _)

theorem nextStage (s : State) (r : Running) : s.Works (s.nextStage r) := by
  unfold State.nextStage
  split
  · split
    · exact same rfl
    · exact playFrom s _ _ _
  · exact playFrom s _ _ _
  · exact playFrom s _ _ _

theorem fadeOver (s : State) (x : Utterance) (k : FadeKind) : s.Works (s.fadeOver x k) := by
  cases k with
  | restore => exact same rfl
  | discardCut => exact endRunning s x .cut
  | discardStopped => exact endRunning s x .stopped

/-- FLUSH tells each removed utterance with notify yes by a raise of its own (05 R102). -/
theorem flushHost (s : State) : s.Works s.flushHost := by
  have hreports : ∀ (us : List Utterance) (t : State), t.Works (us.foldl State.reportFlushed t) := by
    intro us
    induction us with
    | nil => exact refl
    | cons x rest ih =>
      intro t
      refine State.Works.trans ?_ (ih (t.reportFlushed x))
      unfold State.reportFlushed
      split
      · exact (refl t).andRaise (Nat.le_refl 1)
      · exact refl t
  exact (same rfl : s.Works ((s.putPlace .now ⟨[], none⟩).putPlace .queue ⟨[], none⟩)).trans (hreports _ _)

/-! ### The Cue Timer and the operating state (07, 10) -/

theorem expire (s : State) : s.Works s.expire := by
  unfold State.expire
  split
  · exact same ((State.portView_cueLoad _ _).trans s.portView_placeCue)
  · exact ((refl s).andRaise (n := .childIdle _) trivial).andSame (State.portView_cueStop _)

theorem dozeOff (h : s.op ≠ .setup) : s.Works s.dozeOff := by
  have hoff : s.Works ((s.putVoice { s.voice with amp := .inactive, output := Config.silenceCode }).putOp .doze) :=
    ⟨.none, fun hs => absurd hs h, fun hs => ⟨hs.words, hs.working⟩⟩
  unfold State.dozeOff
  dsimp only
  split
  · exact hoff
  · exact hoff.trans (wakeUp (by simp))

/-- The runtime state is cleared, and with it the word table and the Judge's work (10 R166). -/
theorem clearRuntime (s : State) : s.Works s.clearRuntime :=
  ⟨.none, id, fun _ => ⟨nofun, nofun⟩⟩

theorem passTime (s : State) : s.Works s.passTime := by
  cases hreset : s.resetLow with
  | true => rw [State.passTime_of_reset hreset]; exact refl s
  | false =>
    rw [State.passTime_eq hreset]
    exact of_link (Link.Raised.none.assembler _) rfl rfl rfl

end State.Works

end Sys2Proof.Machine
end

section
/-! PROOFS. The moves of the Link Port (09 R152 to R160; 10 R165 to R167). A row that takes a frame answers it by its owner
(`Answer.Good`) or is RESET, DOZE or the start of the bank check (`State.Answered`); every row is a chain of ten moves
(`State.PortMove`), and so a law of the link has to be kept by each move alone. -/

namespace Sys2Proof.Machine

/-! ### The moves -/

/-- One move of the part as the Link Port sees it. -/
inductive State.PortMove (s : State) : State → Prop
  | work {t : State} (h : s.Works t) : PortMove s t
  | take {f : HostFrame} {rest : List HostFrame} (h : s.link.inbox = f :: rest) :
      PortMove s (s.putLink { s.link with inbox := rest })
  | store (f : HostFrame) (h : s.link.inbox.length < Config.inboxCapacity) :
      PortMove s (s.putLink { s.link with inbox := s.link.inbox ++ [f] })
  | answer {r : Reply} (hfree : s.link.replyPlaceFree = true) (hr : r.payload.length ≤ 247) : PortMove s (s.reply r)
  | beginCheck (tag : Byte) (hbegun : s.link.begun = none) (hfree : s.link.replyPlaceFree = true) (hop : s.op = .setup) :
      PortMove s (s.putLink { s.link with begun := some tag })
  | endCheck (op : OpState) {r : Reply} (hbegun : s.link.begun.isSome = true) (hr : r.payload.length ≤ 247) :
      PortMove s (((s.putLink { s.link with begun := none }).putOp op).reply r)
  | transmit {f : OutFrame} {rest : List OutFrame} (hidle : s.link.transmitting = none) (h : s.link.outbox = f :: rest) :
      PortMove s (s.putLink { s.link with transmitting := some f, outbox := rest })
  | complete {f : OutFrame} (h : s.link.transmitting = some f) : PortMove s (s.transmitted f)
  | clear : PortMove s (s.putLink s.link.resetCommand)
  | pinReset : PortMove s s.pinReset

/-- A chain of moves. -/
inductive State.PortMoves (s : State) : State → Prop
  | refl : PortMoves s s
  | tail {t u : State} (h : PortMoves s t) (hlast : t.PortMove u) : PortMoves s u

namespace State.PortMoves

variable {s t u : State}

theorem single (h : s.PortMove t) : s.PortMoves t := .tail .refl h

theorem trans (h : s.PortMoves t) (k : t.PortMoves u) : s.PortMoves u := by
  induction k with
  | refl => exact h
  | tail _ hlast ih => exact ih.tail hlast

theorem head (h : s.PortMove t) (k : t.PortMoves u) : s.PortMoves u := (single h).trans k

/-- A property that every move keeps holds after a chain of moves. -/
theorem keep {P : State → Prop} (hmove : ∀ {s t : State}, P s → s.PortMove t → P t) (h : s.PortMoves t)
    (hs : P s) : P t := by
  induction h with
  | refl => exact hs
  | tail _ hlast ih => exact hmove ih hlast

end State.PortMoves

theorem State.Works.moves {s t : State} (h : s.Works t) : s.PortMoves t := .single (.work h)

/-! ### What an owner answers (09 R156, R157) -/

/-- The owner did its work and answers with a payload that fits, or it refuses the command and changes nothing. -/
structure Answer.Good (u : State) (a : Answer) : Prop where
  works : u.Works a.state
  fits : a.payload.length ≤ 247
  refused : a.result ≠ .ok → a = u.refuse a.result

namespace Answer.Good

variable {u t : State} {k : Answer}

theorem refuse (u : State) (r : ResultCode) : (u.refuse r).Good u := ⟨.refl u, Nat.zero_le _, fun _ => rfl⟩

theorem accept (h : u.Works t) {p : List Byte} (hp : p.length ≤ 247) : (t.accept p).Good u :=
  ⟨h, hp, fun hno => absurd rfl hno⟩

/-- An accepted command that tells nothing but its result. -/
theorem done (h : u.Works t) : (t.accept []).Good u := accept h (Nat.zero_le _)

/-- An accepted command that tells one byte. -/
theorem tells (h : u.Works t) {b : Byte} : (t.accept [b]).Good u := accept h (by decide : 1 ≤ 247)

theorem check {cond : Bool} {r : ResultCode} (h : cond = true → k.Good u) : (u.check cond r k).Good u := by
  rcases u.check_cases cond r k with ⟨hc, e⟩ | ⟨-, e⟩ <;> rw [e]
  · exact h hc
  · exact refuse u r

theorem lessonSetting {sizeOk valuesOk : Bool} (h : k.Good u) : (u.lessonSetting sizeOk valuesOk k).Good u :=
  check fun _ => check fun _ => check fun _ => check fun _ => h

theorem readyBare {p : List Byte} (h : k.Good u) : (u.readyBare p k).Good u := check fun _ => check fun _ => h

theorem lessonCommand {p : List Byte} {n : Nat} {lessonOk : Bool} (h : k.Good u) : (u.lessonCommand p n lessonOk k).Good u :=
  check fun _ => check fun _ => check fun _ => h

theorem sayChecks {p : List Byte} {room : Bool} {r : ResultCode} (h : k.Good u) : (u.sayChecks p room r k).Good u :=
  check fun _ => check fun _ => check fun _ => check fun _ => h

theorem release {p : List Byte} {owner : State → Answer} (h : (owner u).Good u) : (u.release p owner).Good u :=
  check fun _ => check fun _ => check fun _ => h

end Answer.Good

/-! ### Payloads that fit (11 R176) -/

theorem State.length_statusPayload (s : State) : s.statusPayload.length = 21 := by
  have hrunning : s.runningBytes.length = 3 := by
    unfold State.runningBytes
    split <;> rfl
  simp [State.statusPayload, hrunning, le16]

theorem State.length_attemptPayload (s : State) : s.attemptPayload.length = 82 := by
  rw [s.attemptPayload_eq, List.length_append, s.length_attemptBytes, length_lastJudgedBytes]

theorem State.length_cutPayload (s : State) : s.cutPayload.length = 3 := by
  unfold State.cutPayload
  split <;> rfl

/-- GET_RESULTS asks for at most 32 records of seven bytes (03 R60). -/
theorem Cycle.length_resultsPayload_le (c : Cycle) (first : Nat) {count : Nat} (h : count ≤ 32) :
    (c.resultsPayload first count).length ≤ 247 := by
  have hrecords := length_flatten_records (size := 7) (recs := ((c.results.drop first).take count).map resultBytes)
    fun r hr => by obtain ⟨x, -, rfl⟩ := List.mem_map.mp hr; rfl
  simp only [Cycle.resultsPayload, List.length_append, hrecords, List.length_cons, List.length_nil, List.length_map,
    List.length_take]
  omega

/-! ### What a row does with its frame -/

/-- The frame `f` is taken, and `t` is what becomes of it: the owner's answer, or the row is RESET, DOZE or the start of the
bank check. -/
inductive State.Answered (u : State) (f : HostFrame) : State → Prop
  | owner {a : Answer} (ha : a.Good u) (hunknown : knownKind f.kind = false → a.result = .unknown) :
      Answered u f (a.sent (replyKind f.kind) f.tag)
  | reset (hknown : knownKind f.kind = true) : Answered u f (u.replied (replyKind f.kind) f.tag .ok []).resetCommand
  | doze (hknown : knownKind f.kind = true) (hop : u.op = .ready) :
      Answered u f (u.replied (replyKind f.kind) f.tag .ok []).dozeOff
  | bankCheck (hkind : f.kind = 0x02) (hop : u.op = .setup) (hp : f.payload = []) :
      Answered u f (u.putLink { u.link with begun := some f.tag })

/-- The row acts where its frame `f` can be taken, and then on the state without the frame alone. -/
def RowAnswers (c : Instr) (f : HostFrame) : Prop :=
  ∃ act : State → State, (∀ s, exec c s = .next ((s.takeFrame f).elim s act)) ∧ ∀ u : State, u.Answered f (act u)

theorem State.command_eq (s : State) (k tag : Byte) (p : List Byte) (owner : State → Answer) :
    s.command k tag p owner = .next ((s.takeFrame ⟨k, tag, p⟩).elim s fun u => (owner u).sent (replyKind k) tag) := by
  unfold State.command
  cases s.takeFrame ⟨k, tag, p⟩ <;> rfl

theorem State.Answered.refused {u : State} {k tag : Byte} {p : List Byte} (hk : knownKind k = true) (r : ResultCode) :
    u.Answered ⟨k, tag, p⟩ (u.reply ⟨replyKind k, tag, r, []⟩) :=
  .owner (.refuse u r) fun hno => absurd (hk.symm.trans hno) nofun

theorem RowAnswers.command {c : Instr} {k tag : Byte} {p : List Byte} {owner : State → Answer}
    (he : ∀ s, exec c s = s.command k tag p owner) (hk : knownKind k = true) (ho : ∀ u, (owner u).Good u) :
    RowAnswers c ⟨k, tag, p⟩ :=
  ⟨_, fun s => (he s).trans (s.command_eq k tag p owner), fun u => .owner (ho u) fun hno => absurd (hk.symm.trans hno) nofun⟩

/-- A RELEASE row leaves the frames of another row's target alone (log 11). -/
theorem RowAnswers.release {c : Instr} {target : Nat} {tag : Byte} {p : List Byte} {owner : State → Answer}
    (he : ∀ s, exec c s = s.releaseCommand target tag p owner) (hwf : c.wf = (releaseRowFits target p && payloadFits p))
    (ho : ∀ u, (owner u).Good u) : RowAnswers c ⟨0x27, tag, p⟩ ∨ (c.wf = false ∧ ∀ s, exec c s = .next s) := by
  cases hfits : releaseRowFits target p with
  | true =>
    refine .inl (.command (fun s => (he s).trans (if_pos hfits)) (by decide) fun u => .release (ho u))
  | false =>
    refine .inr ⟨by rw [hwf, hfits, Bool.false_and], fun s => (he s).trans (if_neg (by simp [hfits]))⟩

theorem execUnknownCommand_answers (k tag : Byte) (p : List Byte) :
    RowAnswers (.unknownCommand k tag p) ⟨k, tag, p⟩ ∨
      ((Instr.unknownCommand k tag p).wf = false ∧ ∀ s, exec (.unknownCommand k tag p) s = .next s) := by
  cases hk : knownKind k with
  | true => exact .inr ⟨by rw [Instr.wf, hk, Bool.not_true, Bool.false_and], fun s => if_pos hk⟩
  | false =>
    have hexec : ∀ s, exec (.unknownCommand k tag p) s = s.command k tag p fun s => s.refuse .unknown := fun s =>
      if_neg (by simp [hk])
    exact .inl ⟨_, fun s => (hexec s).trans (s.command_eq k tag p _), fun u => .owner (.refuse u _) fun _ => rfl⟩

/-! ### RESET, BEGIN and DOZE (10 R165, R166, R168) -/

def State.resetRow (u : State) (tag : Byte) (p : List Byte) : State :=
  if p.isEmpty then (u.replied 0x83 tag .ok []).resetCommand else u.replied 0x83 tag .length []

def State.beginRow (u : State) (tag : Byte) (p : List Byte) : State :=
  if u.op ≠ .setup then u.replied 0x82 tag .state []
  else if p.isEmpty then u.putLink { u.link with begun := some tag }
  else u.replied 0x82 tag .length []

def State.dozeRow (u : State) (tag : Byte) (p : List Byte) : State :=
  if u.op ≠ .ready then u.replied 0x84 tag .state []
  else if !p.isEmpty then u.replied 0x84 tag .length []
  else if u.mayDoze then (u.replied 0x84 tag .ok []).dozeOff
  else u.replied 0x84 tag .state []

theorem execReset_answers (tag : Byte) (p : List Byte) : RowAnswers (.reset tag p) ⟨0x03, tag, p⟩ := by
  refine ⟨(·.resetRow tag p), fun s => ?_, fun u => ?_⟩
  · rw [exec, execReset]
    cases s.takeFrame ⟨0x03, tag, p⟩ with
    | none => rfl
    | some u => exact (apply_ite Host.Outcome.next _ _ _).symm
  · show u.Answered _ (u.resetRow tag p)
    unfold State.resetRow
    split
    · exact .reset (f := ⟨0x03, tag, p⟩) (show knownKind 0x03 = true by decide)
    · exact .refused (by decide) .length

theorem execBegin_answers (tag : Byte) (p : List Byte) : RowAnswers (.begin tag p) ⟨0x02, tag, p⟩ := by
  refine ⟨(·.beginRow tag p), fun s => ?_, fun u => ?_⟩
  · rw [exec, execBegin]
    cases s.takeFrame ⟨0x02, tag, p⟩ with
    | none => rfl
    | some u =>
      show _ = Host.Outcome.next (u.beginRow tag p)
      rw [State.beginRow, apply_ite Host.Outcome.next, apply_ite Host.Outcome.next]
      rfl
  · show u.Answered _ (u.beginRow tag p)
    unfold State.beginRow
    split
    · exact .refused (by decide) .state
    · next hop =>
      split
      · next hp => exact .bankCheck (f := ⟨0x02, tag, p⟩) rfl (Decidable.not_not.mp hop) (List.isEmpty_iff.mp hp)
      · exact .refused (by decide) .length

theorem execDoze_answers (tag : Byte) (p : List Byte) : RowAnswers (.doze tag p) ⟨0x04, tag, p⟩ := by
  refine ⟨(·.dozeRow tag p), fun s => ?_, fun u => ?_⟩
  · rw [exec, execDoze]
    cases s.takeFrame ⟨0x04, tag, p⟩ with
    | none => rfl
    | some u =>
      show _ = Host.Outcome.next (u.dozeRow tag p)
      rw [State.dozeRow, apply_ite Host.Outcome.next, apply_ite Host.Outcome.next, apply_ite Host.Outcome.next]
      rfl
  · show u.Answered _ (u.dozeRow tag p)
    unfold State.dozeRow
    split
    · exact .refused (by decide) .state
    · next hop =>
      split
      · exact .refused (by decide) .length
      · split
        · exact .doze (f := ⟨0x04, tag, p⟩) (show knownKind 0x04 = true by decide) (Decidable.not_not.mp hop)
        · exact .refused (by decide) .state

/-! ### Every host command -/

/-- GET_RESULTS answers with the records its payload asks for. -/
theorem execGetResults_answers (tag : Byte) (p : List Byte) : RowAnswers (.getResults tag p) ⟨0x29, tag, p⟩ := by
  refine .command (fun _ => rfl) (by decide) fun u => .check fun _ => .check fun _ => .check fun hvalues => ?_
  obtain ⟨-, -, hcount, -⟩ := of_decide_eq_true hvalues
  exact .accept (.refl u) (u.cycle.length_resultsPayload_le _ hcount)

/-- LOAD_WORDS stores spellings of at most 20 symbols (03 R43). -/
theorem State.Works.load (u : State) (p : List Byte) : u.Works (u.load p) := by
  refine ⟨.none, id, fun h => ⟨fun w hw => ?_, h.working⟩⟩
  rcases List.mem_append.mp hw with hold | hnew
  · exact h.words w hold
  · obtain ⟨r, -, rfl⟩ := List.mem_map.mp hnew
    simp only [wordRecordOf, spellingOf, List.length_map, List.length_take]
    omega

theorem execLoadWords_answers (tag : Byte) (p : List Byte) : RowAnswers (.loadWords tag p) ⟨0x20, tag, p⟩ :=
  .command (fun _ => rfl) (by decide) fun u => .check fun _ => .check fun _ => .check fun _ => .check fun _ =>
    .check fun _ => .tells (.load u p)

theorem execClearWords_answers (tag : Byte) (p : List Byte) : RowAnswers (.clearWords tag p) ⟨0x21, tag, p⟩ :=
  .command (fun _ => rfl) (by decide) fun _ => .readyBare <| .check fun _ =>
    .done ⟨.none, id, fun h => ⟨nofun, h.working⟩⟩

/-- WAKE leaves DOZE (10 R170). -/
theorem execWake_answers (tag : Byte) (p : List Byte) : RowAnswers (.wake tag p) ⟨0x05, tag, p⟩ := by
  refine .command (fun _ => rfl) (by decide) fun u => .check fun hop => .check fun _ =>
    .done ⟨.none, fun hs => ?_, fun h => ⟨h.words, h.working⟩⟩
  exact absurd (hs.symm.trans (of_decide_eq_true hop)) nofun

/-- A host command's row answers its frame; RELEASE rows with another row's target and UNKNOWN_COMMAND with a known kind, which
are not well-formed, change nothing. -/
theorem exec_answers (c : Instr) {k tag : Byte} {p : List Byte} (h : c.hostFrame = some (k, tag, p)) :
    RowAnswers c ⟨k, tag, p⟩ ∨ (c.wf = false ∧ ∀ s, exec c s = .next s) := by
  cases c with
  | unknownCommand => cases h; exact execUnknownCommand_answers k tag p
  | reset => cases h; exact .inl (execReset_answers tag p)
  | begin => cases h; exact .inl (execBegin_answers tag p)
  | doze => cases h; exact .inl (execDoze_answers tag p)
  | wake => cases h; exact .inl (execWake_answers tag p)
  | loadWords => cases h; exact .inl (execLoadWords_answers tag p)
  | clearWords => cases h; exact .inl (execClearWords_answers tag p)
  | getResults => cases h; exact .inl (execGetResults_answers tag p)
  | status =>
    cases h
    exact .inl (.command (fun _ => rfl) (by decide) fun u => .check fun _ =>
      .accept (.refl u) (by rw [u.length_statusPayload]; decide))
  | setKeys =>
    cases h
    exact .inl (.command (fun _ => rfl) (by decide) fun _ => .check fun _ => .check fun _ => .check fun _ =>
      .tells (.same (by rfl)))
  | setIntake | setLetters =>
    cases h
    exact .inl (.command (fun _ => rfl) (by decide) fun _ => .lessonSetting (.done (.same (by rfl))))
  | setPairs =>
    cases h
    exact .inl (.command (fun _ => rfl) (by decide) fun _ => .lessonSetting (.tells (.same (by rfl))))
  | setJudge =>
    cases h
    exact .inl (.command (fun _ => rfl) (by decide) fun _ => .lessonSetting (.accept (.same (by rfl)) (by simp)))
  | setCue =>
    cases h
    refine .inl (.command (fun _ => rfl) (by decide) fun _ => .lessonSetting ?_)
    exact .accept (.same (by rfl)) (by simp [le16])
  | setSources =>
    cases h
    refine .inl (.command (fun _ => rfl) (by decide) fun _ => .lessonSetting ?_)
    exact .accept ((State.Works.same (by rfl)).andSame (State.portView_cutInTest _)) (by simp [tieOrder])
  | setPhrases =>
    cases h
    exact .inl (.command (fun _ => rfl) (by decide) fun _ => .check fun _ => .done (.same (by rfl)))
  | setVoice =>
    cases h
    exact .inl (.command (fun _ => rfl) (by decide) fun _ => .check fun _ => .check fun _ => .done (.same (by rfl)))
  | setWindow =>
    cases h
    exact .inl (.command (fun _ => rfl) (by decide) fun _ => .check fun _ => .check fun _ => .check fun _ =>
      .done (.same (by rfl)))
  | start =>
    cases h
    exact .inl (.command (fun _ => rfl) (by decide) fun u => .lessonCommand <| .check fun _ =>
      .done (.same (u.portView_startLesson _)))
  | pause =>
    cases h
    exact .inl (.command (fun _ => rfl) (by decide) fun _ => .lessonCommand (.done (.same (by rfl))))
  | resume =>
    cases h
    exact .inl (.command (fun _ => rfl) (by decide) fun _ => .lessonCommand (.done (.same (State.portView_cutInTest _))))
  | stop =>
    cases h
    exact .inl (.command (fun _ => rfl) (by decide) fun u => .lessonCommand (.done (.stopLesson u)))
  | goto =>
    cases h
    exact .inl (.command (fun _ => rfl) (by decide) fun u => .lessonCommand <| .check fun _ => .done (.gotoWord u _))
  | releaseLetter | releasePass =>
    cases h
    exact RowAnswers.release (fun _ => rfl) rfl fun _ => .check fun _ => .done (.same (by rfl))
  | releaseWord =>
    cases h
    exact RowAnswers.release (fun _ => rfl) rfl fun u => .check fun _ => .done (.advance u)
  | getAttempt =>
    cases h
    exact .inl (.command (fun _ => rfl) (by decide) fun u => .readyBare
      (.accept (.refl u) (by rw [u.length_attemptPayload]; decide)))
  | getTally =>
    cases h
    exact .inl (.command (fun _ => rfl) (by decide) fun u => .readyBare
      (.accept (.refl u) (by simp [Judge.tallyPayload, le16])))
  | say =>
    cases h
    exact .inl (.command (fun _ => rfl) (by decide) fun u => .sayChecks
      (.tells (.same (u.portView_arrive _))))
  | sayNow =>
    cases h
    exact .inl (.command (fun _ => rfl) (by decide) fun u => .sayChecks (.done (.same (u.portView_arrive _))))
  | cut =>
    cases h
    refine .inl (.command (fun _ => rfl) (by decide) fun u => .readyBare ?_)
    exact .accept (.same (by rfl)) (by rw [u.length_cutPayload]; decide)
  | flush =>
    cases h
    exact .inl (.command (fun _ => rfl) (by decide) fun u => .readyBare (.tells (.flushHost u)))
  | pinReset | resetnRelease | scan | pressIntervalComplete | releaseIntervalComplete | wakingPress | takePass
  | discardHead | takeLetter | takeRubout | takeGo | takeSpace | takeHear | takeHint | judgingComplete | utteranceStart
  | stageEnd | fadeEnd | cueDecrement | cueExpiry | ampHoldEnd | frameReceived | interByteTimeout | transmitBegin
  | transmitComplete | bankCheckComplete | receivedByte | samplePeriod => cases h

end Sys2Proof.Machine
end

section
/-! PROOFS. The taking of a command (09 R155 to R157, log 2): a row with an empty inbox brings its frame, and every taken command
is answered once. -/

namespace Sys2Proof.Machine

/-! ### An empty inbox (log 2) -/

/-- The frame that a row brings is taken as the head of the inbox is. -/
theorem State.takeFrame_of_empty {s : State} {f : HostFrame} (hmay : s.mayTake = true) (hempty : s.link.inbox = []) :
    s.takeFrame f = some s ∧ State.takeFrame { s with link := { s.link with inbox := [f] } } f = some s := by
  have hmay' : State.mayTake { s with link := { s.link with inbox := [f] } } = true := hmay
  constructor
  · rw [takeFrame, if_pos hmay, hempty]
  · rw [takeFrame, if_pos hmay']
    show (if f = f then some { s with link := { s.link with inbox := [] } } else none) = some s
    rw [if_pos rfl, ← hempty]

/-- Settles O4: the row acts on the state without its frame alone (`exec_answers`), and that is the same state either way. -/
theorem emptyInboxRowBringsItsFrame : Obligations.EmptyInboxRowBringsItsFrame := by
  intro c k t p s hframe hwf hmay hempty
  rcases exec_answers c hframe with ⟨act, hexec, -⟩ | ⟨hill, -⟩
  · obtain ⟨hbrought, hwaiting⟩ := s.takeFrame_of_empty (f := ⟨k, t, p⟩) hmay hempty
    rw [hexec, hexec, hbrought, hwaiting]
    rfl
  · exact absurd (hwf.symm.trans hill) nofun

/-! ### Replies that wait -/

/-- The replies of the outbox, in order. -/
def Link.replies (l : Link) : List OutFrame := l.outbox.filter OutFrame.isReply

/-- A merge moves no reply. -/
theorem replies_mergeInto (n : Notice) (fs : List OutFrame) :
    (fs.map (OutFrame.mergeInto n)).filter OutFrame.isReply = fs.filter OutFrame.isReply := by
  induction fs with
  | nil => rfl
  | cons f fs ih =>
    cases f with
    | reply r => rw [List.map_cons, List.filter_cons_of_pos rfl, List.filter_cons_of_pos rfl, ih]; rfl
    | notice old =>
      have hnotice : ¬((OutFrame.notice old).mergeInto n).isReply = true := by
        rw [OutFrame.isReply_mergeInto]
        exact Bool.false_ne_true
      rw [List.map_cons, List.filter_cons_of_neg hnotice, List.filter_cons_of_neg Bool.false_ne_true, ih]

theorem Link.replies_raise (l : Link) (n : Notice) : (l.raise n).replies = l.replies := by
  rcases l.raise_cases n with ⟨h, e, -⟩ | ⟨e, -⟩ | ⟨e, -⟩ <;> rw [e]
  · rfl
  · exact replies_mergeInto n l.outbox
  · exact (List.filter_append ..).trans (List.append_nil _)

/-- The blocks' work leaves the replies that wait. -/
theorem Link.Raised.replies {p : Prop} {l m : Link} (h : l.Raised p m) : m.replies = l.replies := by
  induction h with
  | none => rfl
  | assembler _ _ ih => exact ih
  | raise _ _ ih => exact (Link.replies_raise _ _).trans ih

/-- An answer enters behind the replies that wait. -/
theorem State.replies_replied (s : State) (kind tag : Byte) (r : ResultCode) (p : List Byte) :
    (s.replied kind tag r p).link.replies = s.link.replies ++ [.reply ⟨kind, tag, r, p⟩] :=
  List.filter_append ..

theorem State.replies_resetCommand (s : State) : s.resetCommand.link.replies = s.link.replies :=
  (Link.replies_raise _ _).trans (List.filter_filter.trans (congrArg (s.link.outbox.filter ·) (funext fun _ => Bool.and_self _)))

theorem State.replies_dozeOff {s : State} (hop : s.op = .ready) : s.dozeOff.link.replies = s.link.replies :=
  (State.Works.dozeOff (s := s) (by rw [hop]; nofun)).link.replies

/-! ### One reply (09 R156, R157) -/

/-- A taken frame, but a BEGIN that starts the bank check, has one reply, which says OK or leaves all else as it was. -/
theorem State.Answered.reply {u t : State} {f : HostFrame} (h : u.Answered f t)
    (hno : f.kind = 0x02 → u.op ≠ .setup ∨ f.payload ≠ []) :
    ∃ r payload, t.link.replies = u.link.replies ++ [.reply ⟨replyKind f.kind, f.tag, r, payload⟩] ∧
      (r ≠ .ok → t = u.replied (replyKind f.kind) f.tag r []) ∧ (knownKind f.kind = false → r = .unknown) := by
  cases h with
  | @owner a ha hunknown =>
    refine ⟨a.result, a.payload, ?_, fun hr => ?_, hunknown⟩
    · rw [Answer.sent, State.replies_replied, ha.works.link.replies]
    · rw [ha.refused hr]
      rfl
  | reset hknown =>
    refine ⟨.ok, [], ?_, fun hr => absurd rfl hr, fun hun => absurd (hknown.symm.trans hun) nofun⟩
    rw [State.replies_resetCommand, State.replies_replied]
  | doze hknown hop =>
    refine ⟨.ok, [], ?_, fun hr => absurd rfl hr, fun hun => absurd (hknown.symm.trans hun) nofun⟩
    rw [State.replies_dozeOff (s := u.replied _ _ _ _) hop, State.replies_replied]
  | bankCheck hkind hop hp =>
    rcases hno hkind with h | h
    · exact absurd hop h
    · exact absurd hp h

/-- Settles O52: the row takes its frame and answers it (`exec_answers`), and every answer is one reply. -/
theorem commandsAreAnsweredOnce : Obligations.CommandsAreAnsweredOnce := by
  intro c k tag p s u hframe hwf hno htakes
  have hreplies : u.link.replies = s.link.replies := by
    obtain ⟨-, -, -, rest, -, rfl⟩ := htakes
    rfl
  rcases exec_answers c hframe with ⟨act, hexec, hanswered⟩ | ⟨hill, -⟩
  · obtain ⟨r, payload, hreply, hrefused, hunknown⟩ := (hanswered u).reply fun hk => (htakes.op ▸ hno hk)
    refine ⟨act u, r, payload, ?_, ?_, hrefused, hunknown⟩
    · rw [hexec, State.takeFrame_of_takes htakes]
      rfl
    · exact hreply.trans (congrArg (· ++ _) hreplies)
  · exact absurd (hwf.symm.trans hill) nofun

end Sys2Proof.Machine
end

section
/-! PROOFS. Every step is a chain of moves of the Link Port (09 R152 to R160; 10 R165 to R167; 95, where a step without a queued
row passes time). -/

namespace Sys2Proof.Machine

/-! ### Rows that take a frame (09 R155) -/

/-- An answered frame: the owner's work is done before its reply, and the reply takes the place that was free. -/
theorem State.Answered.moves {u t : State} {f : HostFrame} (h : u.Answered f t) (hbegun : u.link.begun = none)
    (hfree : u.link.replyPlaceFree = true) : u.PortMoves t := by
  have hok : u.PortMove (u.replied (replyKind f.kind) f.tag .ok []) := .answer hfree (Nat.zero_le _)
  cases h with
  | @owner a ha _ =>
    have hfree' : a.state.link.replyPlaceFree = true := by
      rw [Link.replyPlaceFree, ha.works.link.replyPlacesUsed]
      exact hfree
    exact ha.works.moves.tail (.answer hfree' ha.fits)
  | reset =>
    let cleared := (u.replied (replyKind f.kind) f.tag .ok []).clearRuntime
    let emptied := cleared.putLink cleared.link.resetCommand
    have hclear : State.PortMoves _ cleared := (State.Works.clearRuntime _).moves
    have htold : emptied.Works (emptied.raise (.resetDone .command)) := (State.Works.refl _).andRaise trivial
    have hsetup : emptied.Works ((emptied.raise (.resetDone .command)).putOp .setup) :=
      ⟨htold.link, fun _ => rfl, fun h => State.shortSpellings_of_view (htold.short h) rfl rfl⟩
    exact ((State.PortMoves.head hok hclear).tail .clear).tail (.work hsetup)
  | doze _ hop =>
    have hdoze := State.Works.dozeOff (s := u.replied (replyKind f.kind) f.tag .ok []) fun h => absurd (hop.symm.trans h) nofun
    exact (State.PortMoves.single hok).tail (.work hdoze)
  | bankCheck _ hop => exact .single (.beginCheck _ hbegun hfree hop)

theorem State.takeFrame_moves {s u : State} {f : HostFrame} (h : s.takeFrame f = some u) :
    s.PortMoves u ∧ u.link.begun = none ∧ u.link.replyPlaceFree = true := by
  obtain ⟨hmay, hcases⟩ := State.takeFrame_cases h
  obtain ⟨⟨-, hbegun⟩, hfree⟩ : (s.resetLow = false ∧ s.link.begun = none) ∧ s.link.replyPlaceFree = true := by
    simpa [State.mayTake] using hmay
  rcases hcases with ⟨-, rfl⟩ | ⟨rest, hinbox, rfl⟩
  · exact ⟨.refl, hbegun, hfree⟩
  · exact ⟨.single (.take hinbox), hbegun, hfree⟩

theorem RowAnswers.moves {c : Instr} {f : HostFrame} (h : RowAnswers c f) (s : State) : After s.PortMoves (exec c s) := by
  obtain ⟨act, hexec, hanswered⟩ := h
  rw [hexec]
  cases htake : s.takeFrame f with
  | none => exact .next .refl
  | some u =>
    obtain ⟨hmoves, hbegun, hfree⟩ := State.takeFrame_moves htake
    exact .next (hmoves.trans ((hanswered u).moves hbegun hfree))

theorem hostRow_portMoves {c : Instr} {k tag : Byte} {p : List Byte} (h : c.hostFrame = some (k, tag, p)) (s : State) :
    After s.PortMoves (exec c s) := by
  rcases exec_answers c h with hanswers | ⟨-, hnothing⟩
  · exact hanswers.moves s
  · rw [hnothing]
    exact .next .refl

/-! ### Rows of the link's own (09 R152 to R160; 08 R134; 10 R167) -/

theorem State.Works.putAssembler (s : State) (a : Assembler) : s.Works (s.putLink { s.link with assembler := a }) :=
  .of_link (.assembler .none a) rfl rfl rfl

theorem State.offerFrame_moves (s : State) (f : HostFrame) : s.PortMoves (s.offerFrame f) := by
  unfold State.offerFrame
  split
  · next hroom => exact .single (.store f hroom)
  · split
    · next hfree => exact .single (.answer hfree (Nat.zero_le _))
    · exact .refl

theorem State.receive_moves (s : State) (b : Byte) : s.PortMoves (s.receive b) := by
  have htaken := State.Works.putAssembler s (s.link.assembler.take b).1
  unfold State.receive
  cases (s.link.assembler.take b).2 with
  | nothing => exact htaken.moves
  | good body => exact htaken.moves.trans (State.offerFrame_moves _ _)
  | bad cause => exact (htaken.andRaise (n := .linkError cause 1) trivial).moves

theorem execResetnRelease_portMoves (s : State) : After s.PortMoves (exec .resetnRelease s) := by
  have hhigh : s.pinReset.Works { s.pinReset with resetLow := false } := .same rfl
  show After s.PortMoves (execResetnRelease s)
  unfold execResetnRelease
  split
  · exact .next (.head .pinReset (hhigh.andRaise (n := .resetDone .pin) trivial).moves)
  · exact .next .refl

theorem execTransmitBegin_portMoves (s : State) : After s.PortMoves (exec .transmitBegin s) := by
  show After s.PortMoves (execTransmitBegin s)
  refine After.occurs (s := s) .refl fun hcond => ?_
  have hidle : s.link.transmitting = none := Option.isNone_iff_eq_none.mp (Bool.and_eq_true_iff.mp hcond).1
  unfold Link.transmitOldest
  split
  · exact .refl
  · next f rest houtbox => exact .single (.transmit hidle houtbox)

theorem execTransmitComplete_portMoves (s : State) : After s.PortMoves (exec .transmitComplete s) := by
  show After s.PortMoves (execTransmitComplete s)
  refine After.occurs (s := s) .refl fun _ => ?_
  cases hsent : s.link.transmitting with
  | none => exact .refl
  | some f => exact .single (.complete hsent)

/-- BANK_CHECK_COMPLETE ends the wait of BEGIN with its reply; the rest of it is the bank's and the scanner's. -/
theorem execBankCheckComplete_portMoves (s : State) : After s.PortMoves (exec .bankCheckComplete s) := by
  show After s.PortMoves (execBankCheckComplete s)
  refine After.occurs (s := s) .refl fun hbegun => ?_
  have hended : ∀ {t : State} {op : OpState} {r : Reply}, r.payload.length ≤ 2 →
      t.portView = (((s.putLink { s.link with begun := none }).putOp op).reply r).portView → s.PortMoves t :=
    fun hr e => (State.PortMoves.single (.endCheck _ hbegun (by omega))).tail (.work (.same e))
  dsimp only
  split
  · exact hended (op := s.op) (r := ⟨_, _, _, [_]⟩) (by decide : 1 ≤ 2) rfl
  · exact hended (op := .ready) (r := ⟨_, _, _, le16 _⟩) (by decide : 2 ≤ 2) rfl

/-! ### Rows of the other blocks -/

/-- A row of a block keeps every law that the block's work keeps. -/
theorem portMoves_of_works {c : Instr} {s : State} {cond : Bool} {f : State → State} (he : exec c s = s.occurs cond f)
    (h : cond = true → s.Works (f s)) : After s.PortMoves (exec c s) :=
  he ▸ .occurs .refl fun hcond => (h hcond).moves

theorem execWakingPress_portMoves (s : State) : After s.PortMoves (exec .wakingPress s) := by
  refine portMoves_of_works (Eq.refl (execWakingPress s)) fun hcond => ?_
  have hdoze : s.op = .doze := of_decide_eq_true (Bool.and_eq_true_iff.mp hcond).1
  have hpressed : s.Works (s.putScanner (s.scanner.duePresses.foldl Scanner.press s.scanner)) := .same rfl
  exact hpressed.trans (.wakeUp fun h => absurd (hdoze.symm.trans h) nofun)

theorem execTakePass_portMoves (s : State) : After s.PortMoves (exec .takePass s) := by
  refine portMoves_of_works (Eq.refl (execTakePass s)) fun _ => ?_
  have hpop : s.Works s.popHead := .same rfl
  cases s.head with
  | none => exact .refl s
  | some e =>
    have htold : s.Works (s.popHead.raise (.keyPass false [⟨e.position, e.symbol, e.edge⟩])) := hpop.andRaise (Nat.le_refl 1)
    dsimp only
    split
    · exact htold.andSame rfl
    · exact htold

theorem execTakeLetter_portMoves (s : State) : After s.PortMoves (exec .takeLetter s) := by
  refine portMoves_of_works (Eq.refl (execTakeLetter s)) fun _ => ?_
  have hpop : s.Works s.popHead := .same rfl
  cases s.head with
  | none => exact .refl s
  | some e =>
    dsimp only
    split
    · exact hpop.trans (.letterTyped _ _)
    · exact hpop.andSame (State.portView_guidedRefusal _)

theorem execTakeSpace_portMoves (s : State) : After s.PortMoves (exec .takeSpace s) := by
  refine portMoves_of_works (Eq.refl (execTakeSpace s)) fun _ => ?_
  have hpop : s.Works s.popHead := .same rfl
  split
  · exact hpop.trans (.submit _)
  · exact hpop

/-- A judgement marks each symbol of its target (04 R68), and so WORD_JUDGED has at most 20 marks. -/
theorem execJudgingComplete_portMoves (s : State) : After s.PortMoves (exec .judgingComplete s) := by
  refine portMoves_of_works (Eq.refl (execJudgingComplete s)) fun _ => ?_
  cases hworking : s.judge.working with
  | none => exact .refl s
  | some r =>
    have hidle : s.Works (s.putJudge { s.judge.tally (judgementOf r s.judge.closeThreshold) with
        last := some (judgementOf r s.judge.closeThreshold), working := none }) :=
      .setWorking s fun _ _ h => nomatch h
    refine (hidle.andSame (State.portView_judged _ _)).andRaiseOf fun hshort => ?_
    exact Nat.le_trans (Nat.le_of_eq (length_placeMarks _ _ _)) (hshort.working r hworking)

theorem execUtteranceStart_portMoves (s : State) : After s.PortMoves (exec .utteranceStart s) := by
  refine portMoves_of_works (Eq.refl (execUtteranceStart s)) fun _ => ?_
  split
  · exact .refl s
  · exact .startFrom s _

theorem execStageEnd_portMoves (s : State) : After s.PortMoves (exec .stageEnd s) := by
  refine portMoves_of_works (Eq.refl (execStageEnd s)) fun _ => ?_
  split
  · exact .refl s
  · exact .nextStage s _

theorem execFadeEnd_portMoves (s : State) : After s.PortMoves (exec .fadeEnd s) := by
  refine portMoves_of_works (Eq.refl (execFadeEnd s)) fun _ => ?_
  split
  · exact .refl s
  · split
    · exact .refl s
    · exact .fadeOver s _ _

theorem execSamplePeriod_portMoves (s : State) : After s.PortMoves (exec .samplePeriod s) := by
  refine portMoves_of_works (Eq.refl (execSamplePeriod s)) fun _ => ?_
  split
  · exact .same rfl
  · exact .same (s.portView_giveSample _)

/-! ### Every row and every step -/

theorem exec_portMoves (c : Instr) (s : State) : After s.PortMoves (exec c s) := by
  cases c with
  | pinReset => exact .next (.single .pinReset)
  | resetnRelease => exact execResetnRelease_portMoves s
  | receivedByte b => exact After.occurs (f := (·.receive b)) .refl fun _ => s.receive_moves b
  | frameReceived b => exact After.occurs (f := (·.receive b)) .refl fun _ => s.receive_moves b
  | interByteTimeout =>
    exact portMoves_of_works (Eq.refl (execInterByteTimeout s)) fun _ =>
      (State.Works.putAssembler s Assembler.idle).andRaise (n := .linkError .timeout 1) trivial
  | transmitBegin => exact execTransmitBegin_portMoves s
  | transmitComplete => exact execTransmitComplete_portMoves s
  | bankCheckComplete => exact execBankCheckComplete_portMoves s
  | scan raw => exact portMoves_of_works (Eq.refl (execScan raw s)) fun _ => .same rfl
  | cueDecrement => exact portMoves_of_works (Eq.refl (execCueDecrement s)) fun _ => .same rfl
  | ampHoldEnd => exact portMoves_of_works (Eq.refl (execAmpHoldEnd s)) fun _ => .same rfl
  | discardHead => exact portMoves_of_works (Eq.refl (execDiscardHead s)) fun _ => .same rfl
  | pressIntervalComplete p => exact portMoves_of_works (Eq.refl (execPressIntervalComplete p s)) fun _ => .scannerEvent s _ _ _
  | releaseIntervalComplete p =>
    exact portMoves_of_works (Eq.refl (execReleaseIntervalComplete p s)) fun _ => .scannerEvent s _ _ _
  | wakingPress => exact execWakingPress_portMoves s
  | takePass => exact execTakePass_portMoves s
  | takeLetter => exact execTakeLetter_portMoves s
  | takeRubout =>
    exact portMoves_of_works (Eq.refl (execTakeRubout s)) fun _ =>
      .same ((State.portView_cueLoad _ _).trans (State.portView_rubout _))
  | takeGo => exact portMoves_of_works (Eq.refl (execTakeGo s)) fun _ => .trans (t := s.popHead) (.same rfl) (.submit _)
  | takeSpace => exact execTakeSpace_portMoves s
  | takeHear => exact portMoves_of_works (Eq.refl (execTakeHear s)) fun _ => .same (State.portView_hearRequest s.popHead)
  | takeHint => exact portMoves_of_works (Eq.refl (execTakeHint s)) fun _ => .same (State.portView_hint s.popHead)
  | judgingComplete => exact execJudgingComplete_portMoves s
  | utteranceStart => exact execUtteranceStart_portMoves s
  | stageEnd => exact execStageEnd_portMoves s
  | fadeEnd => exact execFadeEnd_portMoves s
  | cueExpiry => exact portMoves_of_works (Eq.refl (execCueExpiry s)) fun _ => .expire s
  | samplePeriod => exact execSamplePeriod_portMoves s
  | unknownCommand | status | begin | reset | doze | wake | setKeys | setIntake | setLetters | setPhrases | setPairs
  | setSources | setCue | setJudge | setVoice | loadWords | clearWords | start | pause | resume | stop | goto | releaseLetter
  | releasePass | releaseWord | getAttempt | getResults | setWindow | getTally | say | sayNow | cut | flush =>
    exact hostRow_portMoves rfl s

/-- Every step is a chain of moves. -/
theorem step_portMoves (s : State) : After s.PortMoves (step s) := by
  unfold step
  split
  · exact .next (State.Works.passTime s).moves
  · next c rest _ =>
    have hqueue : s.Works { s with pending := rest } := .same rfl
    intro t ht
    exact hqueue.moves.trans (exec_portMoves c _ t ht)

end Sys2Proof.Machine
end

section
/-! PROOFS. The outbox law (09 R154, R155, R159, R160; 10 R165): every move of the Link Port keeps it. -/

namespace Sys2Proof.Machine

/-! ### The law of the Link Port alone -/

/-- What the outbox law says of the Link Port: one frame of a notice kind, its places, and what a held notice waits for. -/
structure Link.Within (l : Link) : Prop where
  kinds : ∀ k, l.framesOf k ≤ 1
  places : l.replyPlacesUsed ≤ Config.replyPlaces
  room : l.inbox.length ≤ Config.inboxCapacity
  held : ∀ h, l.held = some h → (l.transmitting.map (OutFrame.hasKind h.kind)).getD false = true

theorem Link.heldBehindOwnKind_iff (l : Link) :
    l.heldBehindOwnKind = true ↔
      ∀ h, l.held = some h → (l.transmitting.map (OutFrame.hasKind h.kind)).getD false = true := by
  unfold Link.heldBehindOwnKind
  cases l.held <;> simp

/-- The outbox law is the law of the Link Port, and a BEGIN carried out in SETUP alone (10 R165). -/
theorem outboxLaw_iff (s : State) : OutboxLaw s ↔ s.link.Within ∧ (s.link.begun.isSome = true → s.op = .setup) := by
  have hall : ∀ k, k ∈ noticeKinds := fun k => by cases k <;> decide
  rw [OutboxLaw, Link.heldBehindOwnKind_iff]
  constructor
  · rintro ⟨hkinds, hplaces, hroom, hheld, hsetup⟩
    exact ⟨⟨fun k => hkinds k (hall k), hplaces, hroom, hheld⟩, hsetup⟩
  · rintro ⟨⟨hkinds, hplaces, hroom, hheld⟩, hsetup⟩
    exact ⟨fun k _ => hkinds k, hplaces, hroom, hheld, hsetup⟩

/-- After the reduction of the lost-event count a held notice tells what is left, or is the one held before (01 R13). -/
theorem heldOverrun_cases {lost : Nat} {held : Option Notice} {n : Notice} (h : heldOverrun lost held = some n) :
    n = .ringOverrun lost ∨ held = some n := by
  unfold heldOverrun at h
  split at h
  · split at h <;> cases h
    exact .inl rfl
  · exact .inr h
  · split at h <;> cases h
    exact .inl rfl

/-! ### A raise (09 R160) -/

theorem OutFrame.hasKind_notice (n : Notice) (k : NoticeKind) : (OutFrame.notice n).hasKind k = decide (n.kind = k) := rfl

theorem OutFrame.hasKind_mergeInto (n : Notice) (k : NoticeKind) (f : OutFrame) : (f.mergeInto n).hasKind k = f.hasKind k := by
  cases f with
  | reply r => rfl
  | notice old =>
    rw [OutFrame.mergeInto]
    split
    · next hkind => rw [hasKind_notice, hasKind_notice, Notice.merge_kind, hkind]
    · rfl

/-- A frame enters the outbox by a raise only where its kind has none. -/
theorem Link.framesOf_raise_le {l : Link} {n : Notice} (h : ∀ k, l.framesOf k ≤ 1) (k : NoticeKind) :
    (l.raise n).framesOf k ≤ 1 := by
  rcases l.raise_cases n with ⟨held, e, -⟩ | ⟨e, -⟩ | ⟨e, hwaiting, hsending⟩ <;> rw [e]
  · exact h k
  · have hsame : (OutFrame.hasKind k ∘ OutFrame.mergeInto n) = OutFrame.hasKind k := funext (OutFrame.hasKind_mergeInto n k)
    rw [Link.framesOf, List.countP_map, hsame]
    exact h k
  · have hentered : Link.framesOf { l with outbox := l.outbox ++ [.notice n] } k =
        l.framesOf k + if n.kind = k then 1 else 0 := by
      simp only [Link.framesOf, List.countP_append, List.countP_singleton, OutFrame.hasKind_notice, decide_eq_true_eq]
      omega
    rw [hentered]
    split
    · next hkind =>
      have hnone : l.outbox.countP (OutFrame.hasKind k) = 0 :=
        List.countP_eq_zero.mpr fun f hf hk =>
          Bool.false_ne_true (hwaiting.symm.trans (List.any_eq_true.mpr ⟨f, hf, hkind ▸ hk⟩))
      rw [hkind] at hsending
      simp [Link.framesOf, hnone, hsending]
    · exact h k

namespace Link.Within

variable {l m : Link}

theorem raise (h : l.Within) (n : Notice) : (l.raise n).Within where
  kinds := Link.framesOf_raise_le h.kinds
  places := l.raise_replyPlacesUsed n ▸ h.places
  room := l.raise_inbox n ▸ h.room
  held := by
    rcases l.raise_cases n with ⟨new, e, hkind, hsending, -⟩ | ⟨e, -⟩ | ⟨e, -⟩ <;> rw [e]
    · rintro _ ⟨⟩
      rw [hkind]
      exact hsending
    · exact h.held
    · exact h.held

theorem raised {p : Prop} (h : l.Within) (hraised : l.Raised p m) : m.Within := by
  induction hraised with
  | none => exact h
  | assembler _ a ih => exact ⟨ih.kinds, ih.places, ih.room, ih.held⟩
  | raise _ _ ih => exact ih.raise _

/-! ### The moves (09 R155, R159, R162) -/

theorem putInbox (h : l.Within) {fs : List HostFrame} (hfs : fs.length ≤ Config.inboxCapacity) :
    Link.Within { l with inbox := fs } := ⟨h.kinds, h.places, hfs, h.held⟩

theorem begin (h : l.Within) (hbegun : l.begun = none) (hfree : l.replyPlaceFree = true) (tag : Byte) :
    Link.Within { l with begun := some tag } where
  kinds := h.kinds
  places := by
    have hused : l.replyPlacesUsed < Config.replyPlaces := of_decide_eq_true hfree
    simp only [Link.replyPlacesUsed, hbegun, Option.isSome_none, Option.isSome_some, if_true, Bool.false_eq_true, if_false]
      at hused ⊢
    omega
  room := h.room
  held := h.held

/-- A reply that enters takes no notice's place, and its own is counted. -/
theorem putReply (h : l.Within) (r : Reply) (hplaces : l.replyPlacesUsed + 1 ≤ Config.replyPlaces) :
    Link.Within { l with outbox := l.outbox ++ [.reply r] } where
  kinds k := by
    have hnone : [OutFrame.reply r].countP (OutFrame.hasKind k) = 0 := rfl
    have hk := h.kinds k
    simp only [Link.framesOf, List.countP_append, hnone, Nat.add_zero] at hk ⊢
    exact hk
  places := by
    have hone : [OutFrame.reply r].countP OutFrame.isReply = 1 := rfl
    simp only [Link.replyPlacesUsed, List.countP_append, hone] at hplaces ⊢
    omega
  room := h.room
  held := h.held

/-- The end of BEGIN frees the place that was kept for its reply. -/
theorem endBegin (h : l.Within) (hbegun : l.begun.isSome = true) :
    Link.Within { l with begun := none } ∧ Link.replyPlacesUsed { l with begun := none } + 1 ≤ Config.replyPlaces := by
  have hfreed : Link.replyPlacesUsed { l with begun := none } + 1 = l.replyPlacesUsed := by
    simp [Link.replyPlacesUsed, hbegun]
  have hplaces := h.places
  exact ⟨⟨h.kinds, by omega, h.room, h.held⟩, by omega⟩

/-- The oldest frame goes into transmission and is counted there; with the transmitter idle no notice was held. -/
theorem transmit (h : l.Within) (hidle : l.transmitting = none) {f : OutFrame} {rest : List OutFrame}
    (houtbox : l.outbox = f :: rest) : Link.Within { l with transmitting := some f, outbox := rest } where
  kinds k := by
    have hk := h.kinds k
    simp only [Link.framesOf, hidle, houtbox, List.countP_cons, Option.map_none, Option.map_some, Option.getD_none,
      Option.getD_some, Bool.false_eq_true, if_false] at hk ⊢
    exact hk
  places := by
    have hplaces := h.places
    simp only [Link.replyPlacesUsed, hidle, houtbox, List.countP_cons, Option.map_none, Option.map_some, Option.getD_none,
      Option.getD_some, Bool.false_eq_true, if_false] at hplaces ⊢
    exact hplaces
  room := h.room
  held n hn := by
    have hheld := h.held n hn
    rw [hidle] at hheld
    exact absurd hheld Bool.false_ne_true

/-- A completed frame's place is free, and the held notice that enters is then the only frame of its kind. -/
theorem complete (h : l.Within) {f : OutFrame} (hsent : l.transmitting = some f) : (l.complete f).Within := by
  have hkinds := h.kinds
  have hplaces := h.places
  simp only [Link.framesOf, Link.replyPlacesUsed, hsent, Option.map_some, Option.getD_some] at hkinds hplaces
  unfold Link.complete
  split
  · next hnone =>
    refine ⟨fun k => ?_, ?_, h.room, fun n hn => absurd (hnone.symm.trans hn) nofun⟩
    · exact Nat.le_trans (Nat.le_add_right _ _) (hkinds k)
    · simp only [Link.replyPlacesUsed, Option.map_none, Option.getD_none, Bool.false_eq_true, if_false]
      omega
  · next n hheld =>
    have hown : f.hasKind n.kind = true := by simpa [hsent] using h.held n hheld
    rw [if_pos hown]
    refine ⟨fun k => ?_, ?_, h.room, nofun⟩
    · have hk := hkinds k
      simp only [Link.framesOf, List.countP_append, List.countP_singleton, OutFrame.hasKind_notice, decide_eq_true_eq,
        Option.map_none, Option.getD_none, Bool.false_eq_true, if_false]
      split
      · next e => rw [← e, hown, if_pos rfl] at hk; rw [← e]; omega
      · omega
    · have hnotice : [OutFrame.notice n].countP OutFrame.isReply = 0 := rfl
      simp only [Link.replyPlacesUsed, List.countP_append, hnotice, Option.map_none, Option.getD_none, Bool.false_eq_true,
        if_false]
      omega

/-- The reduction of the lost-event count changes a held RING_OVERRUN alone, and holds one behind its own kind (01 R13). -/
theorem putHeldOverrun (h : l.Within) {carried : Nat} (hsent : l.transmitting = some (.notice (.ringOverrun carried)))
    (lost : Nat) : Link.Within { l with held := heldOverrun lost l.held } where
  kinds := h.kinds
  places := h.places
  room := h.room
  held n hn := by
    have hsending : ∀ k, (l.transmitting.map (OutFrame.hasKind k)).getD false = decide (NoticeKind.ringOverrun = k) := by
      rw [hsent]
      exact fun _ => rfl
    have hown : ∀ old, l.held = some old → NoticeKind.ringOverrun = old.kind := fun old hold =>
      of_decide_eq_true ((hsending _).symm.trans (h.held old hold))
    suffices hkind : NoticeKind.ringOverrun = n.kind from (hsending _).trans (decide_eq_true hkind)
    rcases heldOverrun_cases hn with rfl | hold
    · rfl
    · exact hown n hold

theorem resetCommand (h : l.Within) : l.resetCommand.Within where
  kinds k := by
    have hnone : (l.outbox.filter OutFrame.isReply).countP (OutFrame.hasKind k) = 0 :=
      List.countP_eq_zero.mpr fun f hf => by
        obtain ⟨-, hreply⟩ := List.mem_filter.mp hf
        cases f with
        | reply => exact Bool.false_ne_true
        | notice => cases hreply
    rw [Link.framesOf, Link.resetCommand, hnone]
    exact Nat.le_trans (Nat.add_le_add_right (Nat.zero_le _) _) (h.kinds k)
  places := by
    have hkept : (l.outbox.filter OutFrame.isReply).countP OutFrame.isReply = l.outbox.countP OutFrame.isReply := by
      rw [List.countP_filter]
      simp
    have hplaces := h.places
    simp only [Link.replyPlacesUsed, Link.resetCommand, hkept] at hplaces ⊢
    exact hplaces
  room := Nat.zero_le _
  held := nofun

theorem pinReset : Link.pinReset.Within := ⟨fun k => by cases k <;> decide, by decide, by decide, nofun⟩

end Link.Within

theorem State.within_transmitted {s : State} (h : s.link.Within) {f : OutFrame} (hsent : s.link.transmitting = some f) :
    (s.transmitted f).link.Within ∧ (s.transmitted f).link.begun = s.link.begun ∧ (s.transmitted f).op = s.op := by
  have hbegun : ∀ l : Link, (l.complete f).begun = l.begun := by
    intro l
    unfold Link.complete
    split
    · rfl
    · split <;> rfl
  unfold State.transmitted
  split
  · exact ⟨(h.putHeldOverrun hsent _).complete hsent, hbegun _, rfl⟩
  · exact ⟨h.complete hsent, hbegun _, rfl⟩
  · exact ⟨h.complete hsent, hbegun _, rfl⟩

/-! ### Every move and every step -/

theorem State.PortMove.keeps_outboxLaw {s t : State} (hs : OutboxLaw s) (h : s.PortMove t) : OutboxLaw t := by
  rw [outboxLaw_iff] at hs ⊢
  obtain ⟨hlink, hsetup⟩ := hs
  cases h with
  | work h => exact ⟨hlink.raised h.link, fun hbegun => h.setup (hsetup (h.link.begun ▸ hbegun))⟩
  | @take f rest h =>
    have hroom := hlink.room
    rw [h, List.length_cons] at hroom
    exact ⟨hlink.putInbox (Nat.le_of_succ_le hroom), hsetup⟩
  | store f h => exact ⟨hlink.putInbox (by rw [List.length_append]; exact h), hsetup⟩
  | answer hfree => exact ⟨hlink.putReply _ (of_decide_eq_true hfree), hsetup⟩
  | beginCheck tag hbegun hfree hop => exact ⟨hlink.begin hbegun hfree tag, fun _ => hop⟩
  | endCheck op hbegun =>
    obtain ⟨hended, hplaces⟩ := hlink.endBegin hbegun
    exact ⟨hended.putReply _ hplaces, nofun⟩
  | transmit hidle houtbox => exact ⟨hlink.transmit hidle houtbox, hsetup⟩
  | complete hsent =>
    obtain ⟨hsentLink, hbegun, hop⟩ := State.within_transmitted hlink hsent
    exact ⟨hsentLink, by rw [hbegun, hop]; exact hsetup⟩
  | clear => exact ⟨hlink.resetCommand, hsetup⟩
  | pinReset => exact ⟨.pinReset, nofun⟩

/-- Settles O53: a step is a chain of moves (`step_portMoves`), and every move keeps the law. -/
theorem stepKeepsOutboxLaw : Obligations.StepKeepsOutboxLaw := by
  intro s t hs hstep
  exact (step_portMoves s t hstep).keep State.PortMove.keeps_outboxLaw hs

end Sys2Proof.Machine
end

section
/-! PROOFS. The frame law (09 R150, R151): lists stay within their bounds, bodies fit LEN, and the bytes on TXD sum to 0. -/

namespace Sys2Proof.Machine

/-! ### The law of the Link Port alone -/

/-- Every frame waiting, in transmission or held has lists within their bounds. -/
structure Link.Lawful (l : Link) : Prop where
  outbox : ∀ f ∈ l.outbox, f.lawful = true
  transmitting : ∀ f, l.transmitting = some f → f.lawful = true
  held : ∀ h, l.held = some h → h.fits = true

/-- The frame law is the law of the Link Port, and short spellings (03 R39). -/
theorem frameLaw_iff (s : State) : FrameLaw s ↔ s.link.Lawful ∧ s.ShortSpellings := by
  simp only [FrameLaw, Option.all_eq_true, decide_eq_true_eq]
  constructor
  · rintro ⟨houtbox, htransmitting, hheld, hwords, hworking⟩
    exact ⟨⟨houtbox, htransmitting, hheld⟩, hwords, hworking⟩
  · rintro ⟨⟨houtbox, htransmitting, hheld⟩, hwords, hworking⟩
    exact ⟨houtbox, htransmitting, hheld, hwords, hworking⟩

/-! ### Merges (02 R32, 05 R103) -/

/-- A list of eight entries takes no more in. -/
theorem length_mergeEntries_le {α : Type} (more : Bool) {old new : List α} (hold : old.length ≤ Config.noticeEntries)
    (hnew : new.length ≤ 1) : (mergeEntries more old new).2.length ≤ Config.noticeEntries := by
  unfold mergeEntries
  split
  · rw [List.length_append]
    omega
  · exact hold

theorem Notice.fits_of_fresh {n : Notice} (h : n.Fresh) : n.fits = true := by
  cases n with
  | keyPass m es => exact decide_eq_true (Nat.le_trans h (by decide))
  | said m es => exact decide_eq_true (Nat.le_trans h (by decide))
  | wordJudged r k => exact decide_eq_true h
  | _ => rfl

/-- The merge of a raise keeps the bound of its kind's list; a kind without a list has none to keep. -/
theorem Notice.fits_merge {old n : Notice} (hold : old.fits = true) (hn : n.Fresh) : (old.merge n).fits = true := by
  cases n with
  | keyPass m new =>
    cases old with
    | keyPass more es => exact decide_eq_true (length_mergeEntries_le more (of_decide_eq_true hold) hn)
    | _ => exact Notice.fits_of_fresh hn
  | said m new =>
    cases old with
    | said more es => exact decide_eq_true (length_mergeEntries_le more (of_decide_eq_true hold) hn)
    | _ => exact Notice.fits_of_fresh hn
  | wordJudged r k => cases old <;> exact decide_eq_true hn
  | _ => cases old <;> rfl

theorem OutFrame.lawful_mergeInto {f : OutFrame} (hf : f.lawful = true) {n : Notice} (hn : n.Fresh) :
    (f.mergeInto n).lawful = true := by
  cases f with
  | reply r => exact hf
  | notice old =>
    rw [OutFrame.mergeInto]
    split
    · exact Notice.fits_merge hf hn
    · exact hf

/-- A reply's body is its kind, its tag, its result and its payload (09 R157). -/
theorem OutFrame.lawful_reply {r : Reply} (h : r.payload.length ≤ 247) : (OutFrame.reply r).lawful = true := by
  refine decide_eq_true ?_
  simp only [OutFrame.body, List.length_append, List.length_cons, List.length_nil]
  omega

/-! ### The moves -/

namespace Link.Lawful

variable {l m : Link}

theorem append (h : l.Lawful) {f : OutFrame} (hf : f.lawful = true) : ∀ g ∈ l.outbox ++ [f], g.lawful = true := by
  intro g hg
  rcases List.mem_append.mp hg with hold | hnew
  · exact h.outbox g hold
  · exact List.mem_singleton.mp hnew ▸ hf

theorem raise (h : l.Lawful) {n : Notice} (hn : n.Fresh) : (l.raise n).Lawful := by
  rcases l.raise_cases n with ⟨new, e, -, -, hnew⟩ | ⟨e, -⟩ | ⟨e, -⟩ <;> rw [e]
  · refine ⟨h.outbox, h.transmitting, ?_⟩
    rintro _ ⟨⟩
    rcases hnew with rfl | ⟨old, hold, rfl⟩
    · exact Notice.fits_of_fresh hn
    · exact Notice.fits_merge (h.held old hold) hn
  · refine ⟨fun f hf => ?_, h.transmitting, h.held⟩
    obtain ⟨g, hg, rfl⟩ := List.mem_map.mp hf
    exact OutFrame.lawful_mergeInto (h.outbox g hg) hn
  · exact ⟨h.append (f := .notice n) (Notice.fits_of_fresh hn), h.transmitting, h.held⟩

theorem raised {p : Prop} (h : l.Lawful) (hp : p) (hraised : l.Raised p m) : m.Lawful := by
  induction hraised with
  | none => exact h
  | assembler _ a ih => exact ⟨ih.outbox, ih.transmitting, ih.held⟩
  | raise _ hfresh ih => exact ih.raise (hfresh hp)

theorem complete (h : l.Lawful) (f : OutFrame) : (l.complete f).Lawful := by
  unfold Link.complete
  split
  · exact ⟨h.outbox, nofun, h.held⟩
  · next n hheld =>
    split
    · exact ⟨h.append (f := .notice n) (h.held n hheld), nofun, nofun⟩
    · exact ⟨h.outbox, nofun, h.held⟩

theorem putHeldOverrun (h : l.Lawful) (lost : Nat) : Link.Lawful { l with held := heldOverrun lost l.held } := by
  refine ⟨h.outbox, h.transmitting, fun n hn => ?_⟩
  rcases heldOverrun_cases hn with rfl | hold
  · rfl
  · exact h.held n hold

theorem transmitted {s : State} (h : s.link.Lawful) (f : OutFrame) : (s.transmitted f).link.Lawful := by
  unfold State.transmitted
  split
  · exact (h.putHeldOverrun _).complete _
  · exact h.complete _
  · exact h.complete _

end Link.Lawful

theorem State.ShortSpellings.transmitted {s : State} (h : s.ShortSpellings) (f : OutFrame) :
    (s.transmitted f).ShortSpellings := by
  unfold State.transmitted
  split <;> exact ⟨h.words, h.working⟩

theorem State.PortMove.keeps_frameLaw {s t : State} (hs : FrameLaw s) (h : s.PortMove t) : FrameLaw t := by
  rw [frameLaw_iff] at hs ⊢
  obtain ⟨hlink, hshort⟩ := hs
  cases h with
  | work h => exact ⟨hlink.raised hshort h.link, h.short hshort⟩
  | take => exact ⟨⟨hlink.outbox, hlink.transmitting, hlink.held⟩, hshort.words, hshort.working⟩
  | store => exact ⟨⟨hlink.outbox, hlink.transmitting, hlink.held⟩, hshort.words, hshort.working⟩
  | answer _ hr =>
    exact ⟨⟨hlink.append (OutFrame.lawful_reply hr), hlink.transmitting, hlink.held⟩, hshort.words, hshort.working⟩
  | beginCheck => exact ⟨⟨hlink.outbox, hlink.transmitting, hlink.held⟩, hshort.words, hshort.working⟩
  | endCheck op _ hr =>
    exact ⟨⟨hlink.append (OutFrame.lawful_reply hr), hlink.transmitting, hlink.held⟩, hshort.words, hshort.working⟩
  | @transmit f rest _ houtbox =>
    have houtbox' := houtbox ▸ hlink.outbox
    refine ⟨⟨fun g hg => houtbox' g (List.mem_cons_of_mem _ hg), ?_, hlink.held⟩, hshort.words, hshort.working⟩
    rintro _ ⟨⟩
    exact houtbox' f List.mem_cons_self
  | complete => exact ⟨hlink.transmitted _, hshort.transmitted _⟩
  | clear =>
    exact ⟨⟨fun g hg => hlink.outbox g (List.mem_filter.mp hg).1, hlink.transmitting, nofun⟩,
      hshort.words, hshort.working⟩
  | pinReset => exact ⟨⟨nofun, nofun, nofun⟩, nofun, nofun⟩

/-! ### Bodies and bytes (09 R150, R151; 11 R174, R177) -/

/-- The bytes of at most eight entries of two or three bytes each. -/
theorem length_entryBytes_le {α : Type} {es : List α} (hes : es.length ≤ 8) {bytes : α → List Byte} {size : Nat}
    (hbytes : ∀ e, (bytes e).length = size) (hsize : size ≤ 3) : (es.map bytes).flatten.length ≤ 24 := by
  rw [length_flatten_records (size := size) fun r hr => by obtain ⟨e, -, rfl⟩ := List.mem_map.mp hr; exact hbytes e]
  exact Nat.mul_le_mul hsize (Nat.le_trans (Nat.le_of_eq (List.length_map _)) hes)

/-- A notice within its bounds has a body of 2 to 30 bytes. -/
theorem OutFrame.fits_of_lawful {f : OutFrame} (h : f.lawful = true) : f.fits = true := by
  cases f with
  | reply r => exact h
  | notice n =>
    refine decide_eq_true ?_
    cases n with
    | keyPass m es =>
      have hbytes := length_entryBytes_le (of_decide_eq_true h) (bytes := keyPassBytes) (fun _ => rfl) (Nat.le_refl 3)
      simp only [OutFrame.body, Notice.payload, List.length_cons, List.length_append, List.length_nil]
      omega
    | said m es =>
      have hbytes := length_entryBytes_le (of_decide_eq_true h) (bytes := saidBytes) (fun _ => rfl) (by decide : 2 ≤ 3)
      simp only [OutFrame.body, Notice.payload, List.length_cons, List.length_append, List.length_nil]
      omega
    | wordJudged r k =>
      have hmarks : r.marks.length ≤ 20 := of_decide_eq_true h
      simp only [OutFrame.body, Notice.payload, List.length_cons, List.length_append, List.length_map, List.length_nil]
      omega
    | _ => exact ⟨Nat.le_of_ble_eq_true rfl, Nat.le_of_ble_eq_true rfl⟩

theorem byteSum_append (a b : List Byte) : byteSum (a ++ b) = byteSum a + byteSum b := by
  induction a with
  | nil => exact (BitVec.zero_add _).symm
  | cons x a ih => exact (congrArg (x + ·) ih).trans (BitVec.add_assoc ..).symm

/-- CHECK makes the sum of LEN and body 0 (09 R151). -/
theorem add_checkByte (body : List Byte) : byteOf body.length + byteSum body + checkByte body = 0 :=
  (congrArg (byteOf body.length + byteSum body + ·) (BitVec.zero_sub _)).trans (BitVec.add_right_neg _)

theorem byteSum_frame (body : List Byte) : byteSum (byteOf body.length :: (body ++ [checkByte body])) = 0 := by
  have hlast : byteSum [checkByte body] = checkByte body := BitVec.add_zero _
  show byteOf body.length + byteSum (body ++ [checkByte body]) = 0
  rw [byteSum_append, hlast, ← BitVec.add_assoc, add_checkByte]

theorem State.txdFrame_of_transmitting {s : State} {f : OutFrame} (h : s.link.transmitting = some f) :
    s.txdFrame = 0xC3 :: byteOf f.body.length :: (f.body ++ [checkByte f.body]) := by
  rw [State.txdFrame, h]
  rfl

/-- Settles O54: a step is a chain of moves (`step_portMoves`), and every move keeps the law; a lawful frame fits. -/
theorem stepKeepsFramesGood : Obligations.StepKeepsFramesGood := by
  intro s t hs hstep
  have hlaw := (step_portMoves s t hstep).keep State.PortMove.keeps_frameLaw hs
  refine ⟨hlaw, fun f hf => ?_⟩
  have hlawful := ((frameLaw_iff t).mp hlaw).1.transmitting f hf
  exact ⟨OutFrame.fits_of_lawful hlawful, _, State.txdFrame_of_transmitting hf, byteSum_frame f.body, by simp⟩

end Sys2Proof.Machine
end

section
/-! PROOFS. A raise, ATTN and the transmitter (09 R159 to R161; 01 R13), each case in the form of the manual's rule. -/

namespace Sys2Proof.Machine

/-! ### ATTN (09 R161) -/

theorem OutFrame.isNotice_iff (f : OutFrame) : f.isNotice = true ↔ ∃ n, f = .notice n := by
  cases f with
  | reply r => exact ⟨nofun, nofun⟩
  | notice n => exact ⟨fun _ => ⟨n, rfl⟩, fun _ => rfl⟩

theorem Link.noticeWaiting_iff (l : Link) :
    l.noticeWaiting = true ↔
      (∃ n, OutFrame.notice n ∈ l.outbox) ∨ (∃ n, l.transmitting = some (.notice n)) ∨ l.held ≠ none := by
  have hwaiting : l.outbox.any OutFrame.isNotice = true ↔ ∃ n, OutFrame.notice n ∈ l.outbox := by
    rw [List.any_eq_true]
    constructor
    · rintro ⟨f, hf, hnotice⟩
      obtain ⟨n, rfl⟩ := f.isNotice_iff.mp hnotice
      exact ⟨n, hf⟩
    · rintro ⟨n, hn⟩
      exact ⟨_, hn, rfl⟩
  have hsending : (l.transmitting.map OutFrame.isNotice).getD false = true ↔ ∃ n, l.transmitting = some (.notice n) := by
    cases l.transmitting with
    | none => exact ⟨nofun, nofun⟩
    | some f => simpa using f.isNotice_iff
  rw [Link.noticeWaiting, Bool.or_eq_true, Bool.or_eq_true, hwaiting, hsending, Option.isSome_iff_ne_none, or_assoc]

theorem State.attnLow_iff (s : State) :
    s.attnLow = true ↔
      s.resetLow = false ∧
        ((∃ n, OutFrame.notice n ∈ s.link.outbox) ∨ (∃ n, s.link.transmitting = some (.notice n)) ∨
          s.link.held ≠ none) := by
  rw [State.attnLow, Bool.and_eq_true, Bool.not_eq_true', Link.noticeWaiting_iff]

/-! ### A raise enters, merges or is held (09 R160) -/

theorem Link.raise_behind {l : Link} {n sent : Notice} (hsent : l.transmitting = some (.notice sent))
    (hkind : sent.kind = n.kind) :
    l.raise n = { l with
      held := match l.held with
        | none => some n
        | some h => some (h.merge n) } := by
  have hown : (l.transmitting.map (OutFrame.hasKind n.kind)).getD false = true := by
    rw [hsent]
    exact decide_eq_true hkind
  rw [Link.raise, if_pos hown]
  cases l.held <;> rfl

section
variable {l : Link} {n : Notice} (hidle : (l.transmitting.all fun f => !f.hasKind n.kind) = true)
include hidle

theorem Link.notSending_of_all : ¬(l.transmitting.map (OutFrame.hasKind n.kind)).getD false = true := by
  cases hsent : l.transmitting with
  | none => exact Bool.false_ne_true
  | some f =>
    rw [hsent] at hidle
    simpa using hidle

theorem Link.raise_enters (hnone : ∀ f ∈ l.outbox, f.hasKind n.kind = false) :
    l.raise n = { l with outbox := l.outbox ++ [.notice n] } := by
  have hany : ¬l.outbox.any (OutFrame.hasKind n.kind) = true := by
    rw [List.any_eq_true]
    rintro ⟨f, hf, hkind⟩
    exact Bool.false_ne_true ((hnone f hf).symm.trans hkind)
  rw [Link.raise, if_neg (Link.notSending_of_all hidle), if_neg hany]

theorem Link.raise_merges {before after : List OutFrame} {old : Notice} (houtbox : l.outbox = before ++ .notice old :: after)
    (hkind : old.kind = n.kind) (hothers : ∀ f ∈ before ++ after, f.hasKind n.kind = false) :
    l.raise n = { l with outbox := before ++ .notice (old.merge n) :: after } := by
  have hany : l.outbox.any (OutFrame.hasKind n.kind) = true :=
    List.any_eq_true.mpr ⟨.notice old, by simp [houtbox], decide_eq_true hkind⟩
  have hkeeps : ∀ f : OutFrame, f.hasKind n.kind = false → f.mergeInto n = f := by
    intro f hf
    cases f with
    | reply r => rfl
    | notice m => exact if_neg (of_decide_eq_false hf)
  have hmap : ∀ fs : List OutFrame, (∀ f ∈ fs, f.hasKind n.kind = false) → fs.map (OutFrame.mergeInto n) = fs :=
    fun fs hfs => (List.map_congr_left fun f hf => hkeeps f (hfs f hf)).trans (List.map_id' fs)
  have hmerged : (OutFrame.notice old).mergeInto n = .notice (old.merge n) := if_pos hkind
  have hbefore := hmap before fun f hf => hothers f (List.mem_append_left _ hf)
  have hafter := hmap after fun f hf => hothers f (List.mem_append_right _ hf)
  rw [Link.raise, if_neg (Link.notSending_of_all hidle), if_pos hany, houtbox, List.map_append, List.map_cons, hmerged,
    hbefore, hafter]

end

/-! ### The merge rules (02 R32, 05 R103, 04 R77, 08 R136, 09 R153) -/

/-- One entry joins a list of fewer than eight, and a full list's more-flag is set. -/
theorem mergeEntries_one {α : Type} (more : Bool) (es : List α) (e : α) :
    mergeEntries more es [e] = if es.length < 8 then (more, es ++ [e]) else (true, es) := rfl

/-- The kinds whose merge replaces. -/
theorem Notice.merge_eq_new {old n : Notice}
    (h : n.kind ∉ [NoticeKind.keyPass, .said, .wordJudged, .fault, .linkError]) : old.merge n = n := by
  cases n with
  | keyPass | said | wordJudged | fault | linkError => exact absurd (by simp [Notice.kind]) h
  | _ => cases old <;> rfl

/-- Settles O51, a case of the rule at a time. -/
theorem raisesEnterMergeOrAreHeld : Obligations.RaisesEnterMergeOrAreHeld := by
  refine ⟨State.attnLow_iff, fun l n hidle => ⟨Link.raise_enters hidle, fun _ _ _ => Link.raise_merges hidle⟩,
    fun _ _ _ => Link.raise_behind, fun m m' es e => ?_, fun m m' es e => ?_, fun _ _ _ _ => rfl, fun _ _ _ _ => rfl,
    fun _ _ _ _ => rfl, fun _ _ _ => Notice.merge_eq_new⟩
  · rw [Notice.merge, mergeEntries_one]
    split <;> rfl
  · rw [Notice.merge, mergeEntries_one]
    split <;> rfl

/-! ### The transmitter (09 R159; 01 R13) -/

theorem execTransmitBegin_of {s : State} {f : OutFrame} {rest : List OutFrame} (hl : s.resetLow = false)
    (hidle : s.link.transmitting = none) (houtbox : s.link.outbox = f :: rest) :
    exec .transmitBegin s = .next { s with link := { s.link with transmitting := some f, outbox := rest } } := by
  show execTransmitBegin s = _
  rw [execTransmitBegin, State.occurs_of s _ hl (by rw [hidle, houtbox]; rfl), Link.transmitOldest, houtbox]
  rfl

theorem execTransmitComplete_of {s : State} {f : OutFrame} (hl : s.resetLow = false) (hsent : s.link.transmitting = some f) :
    exec .transmitComplete s = .next (s.transmitted f) := by
  show execTransmitComplete s = _
  rw [execTransmitComplete, State.occurs_of s _ hl (by rw [hsent]; rfl), hsent]

/-- The lost-event count is a matter of RING_OVERRUN alone. -/
theorem State.transmitted_of_other {s : State} {f : OutFrame} (hf : f.hasKind .ringOverrun = false) :
    s.transmitted f = s.putLink (s.link.complete f) := by
  cases f with
  | reply r => rfl
  | notice n =>
    cases n with
    | ringOverrun n => cases hf
    | _ => rfl

theorem Link.complete_of_none {l : Link} {f : OutFrame} (h : l.held = none) :
    l.complete f = { l with transmitting := none } := by
  unfold Link.complete
  split
  · rfl
  · next n hn => exact absurd (h.symm.trans hn) nofun

/-- The held notice enters at the tail. -/
theorem Link.complete_of_held {l : Link} {f : OutFrame} {h : Notice} (hheld : l.held = some h) (hown : f.hasKind h.kind = true) :
    l.complete f = { l with transmitting := none, held := none, outbox := l.outbox ++ [.notice h] } := by
  rw [Link.complete, hheld]
  exact if_pos hown

/-- At the completion of a RING_OVERRUN what is left untold waits in one notice of its kind, and none is held. -/
theorem Link.complete_ringOverrun {l : Link} {carried : Nat} (hsent : l.transmitting = some (.notice (.ringOverrun carried)))
    (hheld : l.heldBehindOwnKind = true) (lost : Nat) :
    Link.complete { l with held := heldOverrun lost l.held } (.notice (.ringOverrun carried)) =
      { l with
        transmitting := none, held := none
        outbox := l.outbox ++ if lost = 0 then [] else [.notice (.ringOverrun lost)] } := by
  have hnext : heldOverrun lost l.held = if lost = 0 then none else some (.ringOverrun lost) := by
    cases hold : l.held with
    | none => rfl
    | some h =>
      have hkind : NoticeKind.ringOverrun = h.kind := by
        rw [Link.heldBehindOwnKind, hold, hsent] at hheld
        exact of_decide_eq_true hheld
      cases h with
      | ringOverrun n => rfl
      | _ => cases hkind
  rw [hnext]
  by_cases hlost : lost = 0
  · rw [if_pos hlost, if_pos hlost, List.append_nil]
    rfl
  · rw [if_neg hlost, if_neg hlost]
    exact Link.complete_of_held rfl rfl

/-- Settles O50: TRANSMIT_BEGIN, TRANSMIT_COMPLETE, and TRANSMIT_COMPLETE of a RING_OVERRUN. -/
theorem transmitterSendsInOrder : Obligations.TransmitterSendsInOrder := by
  refine ⟨fun s f rest => execTransmitBegin_of, fun s f hl hsent hf => ⟨fun hnone => ?_, fun h hheld hown => ?_⟩,
    fun s carried hl hsent hheld => ?_⟩
  · rw [execTransmitComplete_of hl hsent, State.transmitted_of_other hf, Link.complete_of_none hnone]
    rfl
  · rw [execTransmitComplete_of hl hsent, State.transmitted_of_other hf, Link.complete_of_held hheld hown]
    rfl
  · rw [execTransmitComplete_of hl hsent]
    exact congrArg (fun l => Host.Outcome.next { s with ring := { s.ring with lost := s.ring.lost - carried }, link := l })
      (Link.complete_ringOverrun hsent hheld _)

end Sys2Proof.Machine
end

section
/-! PROOFS. The receive assembler and the inbox (09 R150 to R157): one byte in each state, and a whole frame. -/

namespace Sys2Proof.Machine

/-! ### One byte in the assembler (09 R152) -/

namespace Assembler

variable {a : Assembler} (b : Byte)

theorem take_hunt (h : a.state = .hunt) :
    a.take b = if b = 0xC3 then (⟨.length, [], 0, 0, 0⟩, .nothing) else (a, .nothing) := by
  rw [take, h]
  rfl

theorem take_length (h : a.state = .length) :
    a.take b =
      if 2 ≤ b.toNat ∧ b.toNat ≤ 250 then (⟨.body, [], b, b.toNat, 0⟩, .nothing) else (Assembler.idle, .bad .len) := by
  rw [take, h]

theorem take_body (h : a.state = .body) :
    a.take b = (⟨if a.expected ≤ 1 then .check else .body, a.body ++ [b], a.sum + b, a.expected - 1, 0⟩, .nothing) := by
  rw [take, h]

theorem take_check (h : a.state = .check) :
    a.take b = (Assembler.idle, if a.sum + b = 0 then .good a.body else .bad .check) := by
  rw [take, h]

/-- A byte completes or rejects a frame as CHECK, and as LEN outside 2 to 250 (09 R152, R153). -/
theorem take_ne_nothing (h : a.state = .check ∨ (a.state = .length ∧ ¬(2 ≤ b.toNat ∧ b.toNat ≤ 250))) :
    (a.take b).2 ≠ .nothing := by
  rcases h with hcheck | ⟨hlength, hbad⟩
  · rw [take_check b hcheck]
    dsimp only
    split <;> nofun
  · rw [take_length b hlength, if_neg hbad]
    nofun

end Assembler

/-! ### What the part makes of a byte (09 R152 to R154) -/

section
variable {s : State} {b : Byte} {a : Assembler}

theorem State.receive_of_nothing (h : s.link.assembler.take b = (a, .nothing)) :
    s.receive b = s.putLink { s.link with assembler := a } := by
  rw [State.receive, h]

theorem State.receive_of_good {body : List Byte} (h : s.link.assembler.take b = (a, .good body)) :
    s.receive b = (s.putLink { s.link with assembler := a }).offerFrame (frameOf body) := by
  rw [State.receive, h]

theorem State.receive_of_bad {cause : LinkCause} (h : s.link.assembler.take b = (a, .bad cause)) :
    s.receive b = (s.putLink { s.link with assembler := a }).raise (.linkError cause 1) := by
  rw [State.receive, h]

end

/-- The inbox has room, or a reply place tells OVERFLOW, or the frame is lost (09 R154). -/
theorem State.offerFrame_eq (s : State) (f : HostFrame) :
    s.offerFrame f =
      if s.link.inbox.length < 2 then { s with link := { s.link with inbox := s.link.inbox ++ [f] } }
      else if s.link.replyPlacesUsed < 4 then s.replied (replyKind f.kind) f.tag .overflow []
      else s := by
  have hfree : s.link.replyPlaceFree = true ↔ s.link.replyPlacesUsed < 4 := decide_eq_true_iff
  simp only [State.offerFrame, hfree]
  rfl

theorem State.offerFrame_of_room {s : State} (h : s.link.inbox.length < 2) (f : HostFrame) :
    s.offerFrame f = { s with link := { s.link with inbox := s.link.inbox ++ [f] } } := by
  rw [State.offerFrame_eq, if_pos h]

theorem execReceivedByte_of {s : State} (hl : s.resetLow = false) (b : Byte) :
    exec (.receivedByte b) s = .next (s.receive b) :=
  s.occurs_of (·.receive b) hl rfl

theorem execFrameReceived_of {s : State} {b : Byte} (hl : s.resetLow = false) (h : (s.link.assembler.take b).2 ≠ .nothing) :
    exec (.frameReceived b) s = .next (s.receive b) :=
  s.occurs_of (·.receive b) hl (decide_eq_true h)

theorem execInterByteTimeout_of {s : State} (hl : s.resetLow = false) (h : s.link.assembler.state ≠ .hunt) :
    exec .interByteTimeout s =
      .next ((s.putLink { s.link with assembler := Assembler.idle }).raise (.linkError .timeout 1)) :=
  s.occurs_of (fun s => (s.putLink { s.link with assembler := Assembler.idle }).raise (.linkError .timeout 1)) hl
    (decide_eq_true h)

/-- An unknown kind is answered under the kind code 0xFF (09 R157). -/
theorem execUnknownCommand_of_takes {s u : State} {k tag : Byte} {p : List Byte} (hk : k ∉ Config.commandKinds)
    (h : Takes s ⟨k, tag, p⟩ u) : exec (.unknownCommand k tag p) s = .next (u.replied 0xFF tag .unknown []) := by
  have hunknown : ¬knownKind k = true := fun hknown => hk (List.contains_iff_mem.mp hknown)
  have hreply : replyKind k = 0xFF := if_neg hunknown
  show execUnknownCommand k tag p s = _
  rw [execUnknownCommand, if_neg hunknown, State.command_of_takes _ h, hreply]
  rfl

/-- Settles O48: the rows whose byte the assembler takes receive it (09 R152), and `Assembler.take` is split by its state. -/
theorem assemblerTakesEachByte : Obligations.AssemblerTakesEachByte := by
  refine ⟨fun s b c hl hc => ?_, fun s hl h => execInterByteTimeout_of hl h,
    fun s u k tag p hk htakes => execUnknownCommand_of_takes hk htakes⟩
  have hexec : exec c s = .next (s.receive b) := by
    rcases hc with rfl | ⟨rfl, h⟩
    · exact execReceivedByte_of hl b
    · exact execFrameReceived_of hl (Assembler.take_ne_nothing b h)
  rw [hexec]
  refine ⟨fun hhunt => ?_, fun hlength => ?_, fun hbody => ?_, fun hcheck hsum => ?_, fun k tag p hcheck hsum hbody => ?_⟩
  · have htake := Assembler.take_hunt b hhunt
    split
    · next hsync => rw [if_pos hsync] at htake; rw [State.receive_of_nothing htake]; rfl
    · next hother => rw [if_neg hother] at htake; rw [State.receive_of_nothing htake]; rfl
  · have htake := Assembler.take_length b hlength
    split
    · next hok => rw [if_pos hok] at htake; rw [State.receive_of_nothing htake]; rfl
    · next hbad => rw [if_neg hbad] at htake; rw [State.receive_of_bad htake]; rfl
  · rw [State.receive_of_nothing (Assembler.take_body b hbody)]
    rfl
  · have htake := Assembler.take_check b hcheck
    rw [if_neg hsum] at htake
    rw [State.receive_of_bad htake]
    rfl
  · have htake := Assembler.take_check b hcheck
    rw [if_pos hsum, hbody] at htake
    rw [State.receive_of_good htake, State.offerFrame_eq]
    rfl

/-! ### A whole frame (09 R150 to R154) -/

/-- The part with the assembler as given and the rows still to come. -/
def State.receiving (s : State) (a : Assembler) (rows : List Instr) : State :=
  { s with pending := rows, link := { s.link with assembler := a } }

theorem run_succ (M : Host.Core) {s t : M.State} (h : M.step s = .next t) (n : Nat) : M.run (n + 1) s = M.run n t := by
  rw [Host.Core.run.eq_def]
  dsimp only
  rw [h]

/-- A good frame of a body of two bytes or more goes to an inbox with room. -/
theorem State.receive_lastByte {s : State} {b k tag : Byte} {p : List Byte}
    (htake : s.link.assembler.take b = (Assembler.idle, .good (k :: tag :: p))) (hroom : s.link.inbox.length < 2) :
    s.receive b = { s with
      link := { s.link with assembler := Assembler.idle, inbox := s.link.inbox ++ [⟨k, tag, p⟩] } } := by
  rw [State.receive_of_good htake]
  exact State.offerFrame_of_room (s := s.putLink { s.link with assembler := Assembler.idle }) hroom _

section
variable {s : State} (hl : s.resetLow = false)
include hl

/-- A byte inside a frame changes the assembler alone. -/
theorem run_receivedByte {a a' : Assembler} {b : Byte} (htake : a.take b = (a', .nothing)) (rows : List Instr) (n : Nat) :
    core.run (n + 1) (s.receiving a (.receivedByte b :: rows)) = core.run n (s.receiving a' rows) := by
  refine run_succ core ?_ n
  have hexec : exec (.receivedByte b) (s.receiving a rows) = .next ((s.receiving a rows).receive b) :=
    execReceivedByte_of (s := s.receiving a rows) hl b
  exact hexec.trans (congrArg _ (State.receive_of_nothing htake))

/-- The body's bytes are gathered and summed, and the last of them is followed by CHECK. -/
theorem run_body (bs : List Byte) (b : Byte) (gathered : List Byte) (sum : Byte) (rows : List Instr) (n : Nat) :
    core.run (bs.length + 1 + n)
        (s.receiving ⟨.body, gathered, sum, bs.length + 1, 0⟩ ((b :: bs).map Instr.receivedByte ++ rows)) =
      core.run n (s.receiving ⟨.check, gathered ++ b :: bs, sum + byteSum (b :: bs), 0, 0⟩ rows) := by
  induction bs generalizing b gathered sum with
  | nil =>
    have htake : Assembler.take ⟨.body, gathered, sum, 1, 0⟩ b =
        (⟨.check, gathered ++ [b], sum + byteSum [b], 0, 0⟩, .nothing) := by
      rw [show byteSum [b] = b from BitVec.add_zero b]
      rfl
    rw [Nat.add_comm]
    exact run_receivedByte hl htake rows n
  | cons c cs ih =>
    have htake : Assembler.take ⟨.body, gathered, sum, cs.length + 2, 0⟩ b =
        (⟨.body, gathered ++ [b], sum + b, cs.length + 1, 0⟩, .nothing) := by
      rw [Assembler.take_body b rfl, if_neg (by simp)]
      rfl
    have hsum : sum + byteSum (b :: c :: cs) = sum + b + byteSum (c :: cs) := (BitVec.add_assoc ..).symm
    have hcount : (c :: cs).length + 1 + n = cs.length + 1 + n + 1 := by
      rw [List.length_cons]
      omega
    rw [hcount, hsum]
    refine (run_receivedByte hl htake _ _).trans ((ih c (gathered ++ [b]) (sum + b)).trans ?_)
    rw [List.append_assoc, List.singleton_append]

end

/-- Settles O49: 0xC3, LEN, the body's bytes (`run_body`) and CHECK, which sums to 0 with what was gathered. -/
theorem wholeFrameReachesTheInbox : Obligations.WholeFrameReachesTheInbox := by
  intro s k tag p hl hhunt hroom hp
  have hlen : (byteOf (p.length + 2)).toNat = p.length + 2 := toNat_byteOf (by omega)
  have hsync := Assembler.take_hunt 0xC3 hhunt
  rw [if_pos rfl] at hsync
  have hlength : Assembler.take ⟨.length, [], 0, 0, 0⟩ (byteOf (p.length + 2)) =
      (⟨.body, [], byteOf (p.length + 2), p.length + 2, 0⟩, .nothing) := by
    rw [Assembler.take_length _ rfl, hlen, if_pos ⟨by omega, by omega⟩]
  let filled : Assembler := ⟨.check, k :: tag :: p, byteOf (p.length + 2) + byteSum (k :: tag :: p), 0, 0⟩
  have hzero : filled.sum + checkByte (k :: tag :: p) = 0 := add_checkByte (k :: tag :: p)
  have hcheck := Assembler.take_check (a := filled) (checkByte (k :: tag :: p)) rfl
  rw [if_pos hzero] at hcheck
  have hlast : core.step (s.receiving filled [.frameReceived (checkByte (k :: tag :: p))]) = .next { s with
      pending := []
      link := { s.link with assembler := ⟨.hunt, [], 0, 0, 0⟩, inbox := s.link.inbox ++ [⟨k, tag, p⟩] } } := by
    have hexec : exec (.frameReceived (checkByte (k :: tag :: p))) (s.receiving filled []) = _ :=
      execFrameReceived_of (s := s.receiving filled []) hl (Assembler.take_ne_nothing (a := filled) _ (.inl rfl))
    exact hexec.trans (congrArg _ (State.receive_lastByte (s := s.receiving filled []) hcheck hroom))
  calc core.run (p.length + 5) (s.receiving s.link.assembler (receiveSteps (k :: tag :: p)))
    _ = core.run (p.length + 4) (s.receiving ⟨.length, [], 0, 0, 0⟩ _) := run_receivedByte hl hsync _ _
    _ = core.run (p.length + 3) (s.receiving ⟨.body, [], byteOf (p.length + 2), p.length + 2, 0⟩ _) :=
      run_receivedByte hl hlength _ _
    _ = core.run 1 (s.receiving filled [.frameReceived (checkByte (k :: tag :: p))]) :=
      run_body hl (tag :: p) k [] (byteOf (p.length + 2)) [.frameReceived (checkByte (k :: tag :: p))] 1
    _ = _ := run_succ core hlast 0

end Sys2Proof.Machine
end

section
/-! PROOFS. The resets (10 R166, R167; 09 R162, R163): what reset leaves (O5), the pin and its release (O6), and the RESET
command (O7). -/

namespace Sys2Proof.Machine

/-! ### What reset leaves (log 1) -/

/-- Settles O5: State.reset is one closed state, so each value and each law is computed there. -/
theorem resetValuesAndLaws : Obligations.ResetValuesAndLaws :=
  ⟨by decide, by decide, by decide, by decide, by decide, by decide, by decide, by decide, by decide, by decide⟩

/-! ### While RESETn is low (10 R167) -/

theorem State.takeFrame_of_low {s : State} (hlow : s.resetLow = true) (f : HostFrame) : s.takeFrame f = none := by
  simp [State.takeFrame, State.mayTake, hlow]

/-- No frame is taken, and so no host command acts. -/
theorem hostRow_of_low {c : Instr} {k tag : Byte} {p : List Byte} (h : c.hostFrame = some (k, tag, p)) {s : State}
    (hlow : s.resetLow = true) : exec c s = .next s := by
  rcases exec_answers c h with ⟨act, hexec, -⟩ | ⟨-, hnothing⟩
  · rw [hexec, State.takeFrame_of_low hlow]
    rfl
  · exact hnothing s

/-- A host command finds no frame to take, and every other row but the pin's own two is an event that cannot occur. -/
theorem exec_of_low {c : Instr} {s : State} (hlow : s.resetLow = true) (hpin : c ≠ .pinReset)
    (hrelease : c ≠ .resetnRelease) : exec c s = .next s := by
  cases hframe : c.hostFrame with
  | some frame => exact hostRow_of_low hframe hlow
  | none =>
    unfold exec
    cases c with
    | pinReset => exact absurd rfl hpin
    | resetnRelease => exact absurd rfl hrelease
    | scan | pressIntervalComplete | releaseIntervalComplete | wakingPress | takePass | discardHead | takeLetter | takeRubout
    | takeGo | takeSpace | takeHear | takeHint | judgingComplete | utteranceStart | stageEnd | fadeEnd | cueDecrement
    | cueExpiry | ampHoldEnd | frameReceived | interByteTimeout | transmitBegin | transmitComplete | bankCheckComplete
    | receivedByte | samplePeriod => exact s.occurs_not _ (.inl hlow)
    | _ => cases hframe

/-! ### The release of RESETn (10 R167) -/

theorem execResetnRelease_low {s : State} (hlow : s.resetLow = true) :
    exec .resetnRelease s =
      .next { State.reset with bank := { State.reset.bank with flash := s.bank.flash }, pending := s.pending } := by
  show execResetnRelease s = _
  rw [execResetnRelease, if_pos hlow]
  rfl

theorem execResetnRelease_high {s : State} (hhigh : s.resetLow = false) : exec .resetnRelease s = .next s := by
  show execResetnRelease s = _
  rw [execResetnRelease, if_neg (ne_true_of_eq_false hhigh)]

/-- Settles O6: PIN_RESET leaves `State.pinReset`, whose every block is read off, and the release is told by RESETn's level. -/
theorem resetPinAndItsRelease : Obligations.ResetPinAndItsRelease := by
  refine ⟨fun s => ?_, fun s => ⟨execResetnRelease_low, execResetnRelease_high⟩, fun c s hlow => exec_of_low hlow⟩
  exact ⟨s.pinReset, rfl, rfl, rfl, rfl, rfl, rfl, rfl, rfl, rfl, rfl, rfl, rfl, rfl, rfl, rfl, rfl, rfl, rfl⟩

/-! ### The RESET command (10 R166, 09 R162) -/

theorem execReset_eq (tag : Byte) (p : List Byte) (s : State) :
    exec (.reset tag p) s = .next ((s.takeFrame ⟨0x03, tag, p⟩).elim s (·.resetRow tag p)) := by
  rw [exec, execReset]
  cases s.takeFrame ⟨0x03, tag, p⟩ with
  | none => rfl
  | some u => exact (apply_ite Host.Outcome.next _ _ _).symm

/-- RESET keeps the replies that wait, its own last. -/
theorem State.resetCommand_replied (s : State) (kind tag : Byte) (r : ResultCode) (p : List Byte) :
    (s.replied kind tag r p).resetCommand =
      { s.clearRuntime with
        op := .setup
        link := ({ s.link with
          inbox := [], held := none
          outbox := s.link.outbox.filter OutFrame.isReply ++ [.reply ⟨kind, tag, r, p⟩] } : Link).raise
            (.resetDone .command) } := by
  have hkept : (s.link.outbox ++ [OutFrame.reply ⟨kind, tag, r, p⟩]).filter OutFrame.isReply =
      s.link.outbox.filter OutFrame.isReply ++ [OutFrame.reply ⟨kind, tag, r, p⟩] := List.filter_append ..
  rw [← hkept]
  rfl

/-- Settles O7: the row refuses a payload, and without one it is `State.resetCommand` after its reply. -/
theorem resetCommandClearsRuntime : Obligations.ResetCommandClearsRuntime := by
  constructor
  · intro s u tag p h hp
    rw [execReset_eq, State.takeFrame_of_takes h, Option.elim_some, State.resetRow, if_neg (mt List.isEmpty_iff.mp hp)]
  · intro s u tag h
    rw [execReset_eq, State.takeFrame_of_takes h, Option.elim_some, State.resetRow, if_pos List.isEmpty_nil,
      State.resetCommand_replied]
    obtain ⟨-, -, -, rest, -, rfl⟩ := h
    rfl

end Sys2Proof.Machine
end

section
/-! PROOFS. BEGIN and its bank check (O8; 10 R165, 08 R133, R134): the row of BEGIN, the header's fields in bytes, and the first
failing test. -/

namespace Sys2Proof.Machine

/-! ### BEGIN (10 R165) -/

theorem execBegin_eq (tag : Byte) (p : List Byte) (s : State) :
    exec (.begin tag p) s = .next ((s.takeFrame ⟨0x02, tag, p⟩).elim s (·.beginRow tag p)) := by
  rw [exec, execBegin]
  cases s.takeFrame ⟨0x02, tag, p⟩ with
  | none => rfl
  | some u =>
    show _ = Host.Outcome.next (u.beginRow tag p)
    rw [State.beginRow, apply_ite Host.Outcome.next, apply_ite Host.Outcome.next]
    rfl

/-! ### The header (08 R133) -/

theorem Bank.magicOk_iff (b : Bank) : b.magicOk = true ↔
    (flashRead b.flash 0).toNat = 0x5A ∧ (flashRead b.flash 1).toNat = 0x53 ∧ (flashRead b.flash 2).toNat = 0x42 ∧
      (flashRead b.flash 3).toNat = 0x4B := by
  simp [Bank.magicOk, Config.magic, List.range_succ, ← BitVec.toNat_inj]

theorem Bank.headerSize_eq (b : Bank) :
    b.headerSize = (flashRead b.flash 6).toNat + 256 * (flashRead b.flash 7).toNat + 65536 * (flashRead b.flash 8).toNat := by
  show _ + 256 * (_ + 256 * _) = _
  rw [Nat.mul_add, ← Nat.mul_assoc, ← Nat.add_assoc]
  rfl

/-! ### The completion (08 R134) -/

/-- What the part makes of a bank check, `t` being the state with BEGIN's wait over (08 R134, 10 R165). -/
def State.bankChecked (t : State) (tag : Byte) : State :=
  match t.bank.checkReason with
  | some reason => t.replied 0x82 tag .bankBad [reason]
  | none => t.begunReady.replied 0x82 tag .ok (le16 t.bank.headerCount)

/-- The first failing test decides. -/
theorem State.bankChecked_eq (t : State) (tag : Byte) : t.bankChecked tag =
    if ¬t.bank.magicOk = true then t.replied 0x82 tag .bankBad [1]
    else if t.bank.headerCount < 1 ∨ 4095 < t.bank.headerCount then t.replied 0x82 tag .bankBad [2]
    else if t.bank.headerSize < 16 + 5 * t.bank.headerCount then t.replied 0x82 tag .bankBad [3]
    else t.begunReady.replied 0x82 tag .ok (le16 t.bank.headerCount) := by
  unfold State.bankChecked Bank.checkReason
  cases t.bank.magicOk with
  | false => rfl
  | true =>
    have hleast : Config.headerBytes + Config.entryBytes * t.bank.headerCount = 16 + 5 * t.bank.headerCount := rfl
    rw [hleast, Bool.not_true, if_neg Bool.false_ne_true, if_neg (not_not_intro rfl)]
    by_cases hcount : t.bank.headerCount < 1 ∨ 4095 < t.bank.headerCount
    · rw [if_pos hcount, if_pos hcount]
    · rw [if_neg hcount, if_neg hcount]
      by_cases hsize : t.bank.headerSize < 16 + 5 * t.bank.headerCount
      · rw [if_pos hsize, if_pos hsize]
      · rw [if_neg hsize, if_neg hsize]

theorem execBankCheckComplete_of {s : State} {tag : Byte} (hl : s.resetLow = false) (hb : s.link.begun = some tag) :
    exec .bankCheckComplete s = .next (((s.putLink { s.link with begun := none }).spiRead 0).bankChecked tag) := by
  show execBankCheckComplete s = _
  rw [execBankCheckComplete, State.occurs_of _ _ hl (by rw [hb]; rfl), hb]
  rfl

/-- Settles O8: the row of BEGIN by its checks, and the completion by the header's tests in their order. -/
theorem beginAndItsBankCheck : Obligations.BeginAndItsBankCheck := by
  constructor
  · intro s u tag p h
    rw [execBegin_eq, State.takeFrame_of_takes h, Option.elim_some, State.beginRow, ← h.op]
    cases p with
    | nil => simp [State.putLink]
    | cons => simp
  · intro s tag hl hb b count size u
    have hsize : u.bank.headerSize = size := u.bank.headerSize_eq
    rw [execBankCheckComplete_of hl hb]
    show Host.Outcome.next (u.bankChecked tag) = _
    rw [State.bankChecked_eq, State.begunReady, hsize]
    exact congrArg Host.Outcome.next (if_congr (not_congr u.bank.magicOk_iff) rfl rfl)

end Sys2Proof.Machine
end

section
/-! PROOFS. The key matrix as the wake finds it (O9, O10; 01 R2, R7; 10 R168 to R170): the held set stays in ascending order
under presses, so WOKE's position is the lowest one down (`Scanner.lowest_held`). -/

namespace Sys2Proof.Machine

/-! ### Ascending positions (01 R7) -/

theorem rising_iff (l : List Nat) : rising l = true ↔ l.Pairwise (· < ·) := by
  rw [← List.isChain_iff_pairwise]
  induction l with
  | nil => simp [rising]
  | cons a l ih =>
    cases l with
    | nil => simp [rising]
    | cons b l => simp only [rising, Bool.and_eq_true, decide_eq_true_eq, ih, List.isChain_cons_cons]

/-- In a lawful held set the first entry has the lowest position (10 R169). -/
theorem Scanner.lowest_held {k : Scanner} {h : HeldEntry} {rest : List HeldEntry}
    (hrising : rising (k.held.map HeldEntry.position) = true) (hheld : k.held = h :: rest) {q : Nat}
    (hq : k.isDown q = true) : h.position ≤ q := by
  obtain ⟨e, he, rfl⟩ := (k.isDown_iff q).mp hq
  rw [hheld] at he hrising
  rcases List.mem_cons.mp he with rfl | he
  · exact Nat.le_refl _
  · have habove := List.rel_of_pairwise_cons ((rising_iff _).mp hrising) (List.mem_map_of_mem he)
    exact Nat.le_of_lt habove

/-- An entry of a new position keeps the ascending order (01 R7). -/
theorem pairwise_insertHeld {e : HeldEntry} {l : List HeldEntry} (hnew : ∀ a ∈ l, a.position ≠ e.position)
    (h : l.Pairwise (·.position < ·.position)) : (insertHeld e l).Pairwise (·.position < ·.position) := by
  induction l with
  | nil => exact List.pairwise_singleton _ _
  | cons a rest ih =>
    obtain ⟨hbelow, hrest⟩ := List.pairwise_cons.mp h
    have hne := hnew a List.mem_cons_self
    unfold insertHeld
    split
    · next hlt =>
      refine List.pairwise_cons.mpr ⟨fun b hb => ?_, h⟩
      rcases List.mem_cons.mp hb with rfl | hb
      · exact hlt
      · exact Nat.lt_trans hlt (hbelow b hb)
    · next hge =>
      refine List.pairwise_cons.mpr ⟨fun b hb => ?_, ih (fun b hb => hnew b (List.mem_cons_of_mem _ hb)) hrest⟩
      rcases (mem_insertHeld e b rest).mp hb with rfl | hb
      · omega
      · exact hbelow b hb

theorem Scanner.rising_press {k : Scanner} {p : Nat} (hup : k.isDown p = false)
    (h : rising (k.held.map HeldEntry.position) = true) : rising ((k.press p).held.map HeldEntry.position) = true := by
  rw [rising_iff, List.pairwise_map] at h ⊢
  refine pairwise_insertHeld (fun a ha hpos => ?_) h
  exact absurd (hup.symm.trans ((k.isDown_iff p).mpr ⟨a, ha, hpos⟩)) nofun

/-! ### The presses that complete in the wake watch (10 R169; log 15) -/

theorem Scanner.mem_duePresses (k : Scanner) (q : Nat) :
    q ∈ k.duePresses ↔ ∃ i ∈ k.intervals, i.position = q ∧ i.due = true ∧ k.isDown q = false := by
  simp only [Scanner.duePresses, List.mem_map, List.mem_filter, Bool.and_eq_true, Bool.not_eq_true']
  constructor
  · rintro ⟨i, ⟨hi, hdue, hup⟩, rfl⟩
    exact ⟨i, hi, rfl, hdue, hup⟩
  · rintro ⟨i, hi, rfl, hdue, hup⟩
    exact ⟨i, ⟨hi, hdue, hup⟩, rfl⟩

/-- Each position has one interval, and so it completes once. -/
theorem Scanner.nodup_duePresses {k : Scanner} (h : rising (k.intervals.map Interval.position) = true) :
    k.duePresses.Nodup :=
  (((rising_iff _).mp h).imp Nat.ne_of_lt).sublist (List.filter_sublist.map _)

/-- What a run of presses makes of the scanner. -/
structure Scanner.Pressed (k : Scanner) (ps : List Nat) (k' : Scanner) : Prop where
  settings : k' = { k with held := k'.held, intervals := k'.intervals }
  isDown : ∀ q, k'.isDown q = true ↔ k.isDown q = true ∨ q ∈ ps
  intervalOf : ∀ q ∈ ps, k'.intervalAt q = none
  intervalElse : ∀ q, q ∉ ps → k'.intervalAt q = k.intervalAt q

theorem Scanner.pressed_foldl (ps : List Nat) (k : Scanner) : k.Pressed ps (ps.foldl Scanner.press k) := by
  induction ps generalizing k with
  | nil => exact ⟨rfl, by simp, nofun, fun _ _ => rfl⟩
  | cons p rest ih =>
    obtain ⟨hsettings, hdown, hof, helse⟩ := ih (k.press p)
    rw [List.foldl_cons]
    refine ⟨hsettings, fun q => ?_, fun q hq => ?_, fun q hq => ?_⟩
    · rw [hdown, k.isDown_press, Bool.or_eq_true, decide_eq_true_eq, List.mem_cons]
      tauto
    · by_cases hrest : q ∈ rest
      · exact hof q hrest
      · obtain rfl := (List.mem_cons.mp hq).resolve_right hrest
        exact (helse q hrest).trans (k.intervalAt_dropInterval_self q)
    · rw [List.mem_cons, not_or] at hq
      exact (helse q hq.2).trans (k.intervalAt_dropInterval_ne hq.1)

theorem Scanner.rising_foldl_press {ps : List Nat} {k : Scanner} (hup : ∀ p ∈ ps, k.isDown p = false) (hnodup : ps.Nodup)
    (h : rising (k.held.map HeldEntry.position) = true) :
    rising ((ps.foldl Scanner.press k).held.map HeldEntry.position) = true := by
  induction ps generalizing k with
  | nil => exact h
  | cons p rest ih =>
    obtain ⟨hp, hrest⟩ := List.nodup_cons.mp hnodup
    refine ih (fun q hq => ?_) hrest (rising_press (hup p List.mem_cons_self) h)
    rw [k.isDown_press, hup q (List.mem_cons_of_mem _ hq), Bool.or_false]
    exact decide_eq_false fun e => hp (e ▸ hq)

/-! ### The wake (10 R169) -/

/-- Every held key is marked quiet. -/
def Scanner.quieted (k : Scanner) : Scanner := { k with held := k.held.map fun e => { e with quiet := true } }

/-- A quiet mark releases no key. -/
theorem Scanner.isDown_quieted (k : Scanner) (q : Nat) : k.quieted.isDown q = k.isDown q := by
  simp [Scanner.isDown, Scanner.quieted, Function.comp_def]

/-- The wake tells the first held position. -/
theorem State.wakeUp_of_held {s : State} {e : HeldEntry} {rest : List HeldEntry} (h : s.scanner.held = e :: rest) :
    s.wakeUp = { s with op := .ready, scanner := s.scanner.quieted, link := s.link.raise (.woke e.position) } := by
  rw [State.wakeUp, Scanner.quieted, h]
  rfl

theorem execWakingPress_of {s : State} (hl : s.resetLow = false) (hop : s.op = .doze) (hdue : s.scanner.duePresses ≠ []) :
    exec .wakingPress s = .next (s.putScanner (s.scanner.duePresses.foldl Scanner.press s.scanner)).wakeUp := by
  have hcond : (decide (s.op = .doze) && !s.scanner.duePresses.isEmpty) = true := by simp [hop, hdue]
  show execWakingPress s = _
  rw [execWakingPress, State.occurs_of _ _ hl hcond]

/-- Settles O10: the due presses in a row (`Scanner.pressed_foldl`), then the wake, which tells the first position of an
ascending held set. -/
theorem wakingPressWakesQuietly : Obligations.WakingPressWakesQuietly := by
  intro s hl hop hlaw completes hsome
  obtain ⟨hheld, -, hintervals, -⟩ := hlaw
  let k := s.scanner.duePresses.foldl Scanner.press s.scanner
  have hcompletes : ∀ q, completes q ↔ q ∈ s.scanner.duePresses := fun q => (s.scanner.mem_duePresses q).symm
  obtain ⟨hsettings, hdown, hof, helse⟩ : s.scanner.Pressed s.scanner.duePresses k := Scanner.pressed_foldl _ _
  have hrising : rising (k.held.map HeldEntry.position) = true := by
    refine Scanner.rising_foldl_press (fun p hp => ?_) (Scanner.nodup_duePresses hintervals) hheld
    obtain ⟨-, -, -, -, hup⟩ := (s.scanner.mem_duePresses p).mp hp
    exact hup
  obtain ⟨p, hp⟩ := hsome
  have hp := (hcompletes p).mp hp
  obtain ⟨e, rest, hk⟩ : ∃ e rest, k.held = e :: rest := by
    obtain ⟨e, he, -⟩ := (k.isDown_iff p).mp ((hdown p).mpr (.inr hp))
    exact List.exists_cons_of_ne_nil (List.ne_nil_of_mem he)
  refine ⟨_, e.position, execWakingPress_of hl hop (List.ne_nil_of_mem hp), ?_⟩
  rw [State.wakeUp_of_held (s := s.putScanner k) hk]
  have hquiet := k.isDown_quieted
  refine ⟨⟨rfl, rfl, fun b hb => by cases b <;> first | rfl | simp at hb⟩, rfl, ?_, ?_, fun q => ?_, ?_, ?_, ?_, ?_, rfl⟩
  · exact congrArg (fun x : Scanner => ({ x with held := k.quieted.held } : Scanner)) hsettings
  · exact List.forall_mem_map.mpr fun _ _ => rfl
  · exact (Bool.eq_iff_iff.mp (hquiet q)).trans ((hdown q).trans (or_congr_right (hcompletes q).symm))
  · exact fun q hq => hof q ((hcompletes q).mp hq)
  · exact fun q hq => helse q (mt (hcompletes q).mpr hq)
  · exact (hquiet _).trans ((k.isDown_iff _).mpr ⟨e, hk ▸ List.mem_cons_self, rfl⟩)
  · exact fun q hq => Scanner.lowest_held hrising hk ((hquiet q).symm.trans hq)

end Sys2Proof.Machine
end

section
/-! PROOFS. DOZE and WAKE (O9; 10 R168 to R170). -/

namespace Sys2Proof.Machine

/-! ### The conditions of DOZE (10 R168) -/

theorem State.holds_eq_false_iff (s : State) (src : Source) : s.holds src = false ↔ s.place src = ⟨[], none⟩ := by
  rw [← Bool.not_eq_true, s.holds_iff, not_or, not_not, not_not]
  cases s.place src
  simp [and_comm]

theorem State.mayDoze_iff (s : State) : s.mayDoze = true ↔
    s.cycle.lesson.current = false ∧ (∀ src, s.holds src = false) ∧ s.arbiter.running = none ∧ s.ring.events = [] ∧
      s.intake.passHold = false := by
  simp [State.mayDoze, State.lessonIdle, State.sourcesEmpty, Source.mem_tieOrder, and_assoc]

theorem State.mayDoze_of_takes {s u : State} {f : HostFrame} (h : Takes s f u) : u.mayDoze = s.mayDoze := by
  obtain ⟨l, rfl⟩ := h.state
  rfl

/-! ### The rows -/

theorem execDoze_eq (tag : Byte) (p : List Byte) (s : State) :
    exec (.doze tag p) s = .next ((s.takeFrame ⟨0x04, tag, p⟩).elim s (·.dozeRow tag p)) := by
  rw [exec, execDoze]
  cases s.takeFrame ⟨0x04, tag, p⟩ with
  | none => rfl
  | some u =>
    show _ = Host.Outcome.next (u.dozeRow tag p)
    rw [State.dozeRow, apply_ite Host.Outcome.next, apply_ite Host.Outcome.next, apply_ite Host.Outcome.next]
    rfl

theorem execDoze_accepted {s u : State} {tag : Byte} (h : Takes s ⟨0x04, tag, []⟩ u) (hop : s.op = .ready)
    (hmay : s.mayDoze = true) : exec (.doze tag []) s = .next (u.replied 0x84 tag .ok []).dozeOff := by
  rw [execDoze_eq, State.takeFrame_of_takes h, Option.elim_some, State.dozeRow, h.op, if_neg (not_not_intro hop),
    if_neg (by decide), if_pos ((State.mayDoze_of_takes h).trans hmay)]

theorem execDoze_refused {s u : State} {tag : Byte} (h : Takes s ⟨0x04, tag, []⟩ u)
    (hno : s.op ≠ .ready ∨ s.mayDoze = false) : exec (.doze tag []) s = .next (u.replied 0x84 tag .state []) := by
  rw [execDoze_eq, State.takeFrame_of_takes h, Option.elim_some, State.dozeRow, h.op]
  by_cases hop : s.op = .ready
  · have hmay : u.mayDoze = false := (State.mayDoze_of_takes h).trans (hno.resolve_left (not_not_intro hop))
    simp [hop, hmay]
  · rw [if_pos hop]

theorem execDoze_ill {s u : State} {tag : Byte} {p : List Byte} (h : Takes s ⟨0x04, tag, p⟩ u)
    (hno : s.op ≠ .ready ∨ p ≠ []) :
    exec (.doze tag p) s = .next (u.replied 0x84 tag (if s.op ≠ .ready then .state else .length) []) := by
  rw [execDoze_eq, State.takeFrame_of_takes h, Option.elim_some, State.dozeRow, h.op]
  by_cases hop : s.op = .ready
  · have hp : p ≠ [] := hno.resolve_left (not_not_intro hop)
    simp [hop, hp]
  · rw [if_pos hop, if_pos hop]

def State.wakeRow (u : State) (tag : Byte) (p : List Byte) : State :=
  if u.op ≠ .doze then u.replied 0x85 tag .state []
  else if p ≠ [] then u.replied 0x85 tag .length []
  else (u.putOp .ready).replied 0x85 tag .ok []

theorem execWake_eq (tag : Byte) (p : List Byte) (s : State) :
    exec (.wake tag p) s = .next ((s.takeFrame ⟨0x05, tag, p⟩).elim s (·.wakeRow tag p)) := by
  have hkind : replyKind 0x05 = 0x85 := by decide
  show execWake tag p s = _
  rw [execWake, State.command_eq, hkind]
  refine congrArg (fun act => Host.Outcome.next ((s.takeFrame ⟨0x05, tag, p⟩).elim s act)) (funext fun u => ?_)
  rw [Answer.sent_check, Answer.sent_check, Answer.sent_accept, State.wakeRow]
  by_cases hop : u.op = .doze
  · cases p <;> simp [hop]
  · simp [hop]

/-! ### The part in DOZE (10 R168, R169; log 20) -/

theorem State.dozeOff_of_up {s : State} (h : s.scanner.held = []) :
    s.dozeOff = { s with op := .doze, voice := { s.voice with amp := .inactive, output := 512 } } :=
  if_pos (List.isEmpty_iff.mpr h)

theorem State.dozeOff_of_down {s : State} {e : HeldEntry} {rest : List HeldEntry} (h : s.scanner.held = e :: rest) :
    s.dozeOff = { s with
      op := .ready
      scanner := s.scanner.quieted
      voice := { s.voice with amp := .inactive, output := 512 }
      link := s.link.raise (.woke e.position) } := by
  have hdown : s.scanner.held.isEmpty ≠ true := by rw [h]; nofun
  exact (if_neg hdown).trans (State.wakeUp_of_held h)

/-- Settles O9: the two rows by their checks in order; an accepted DOZE is `State.dozeOff` after its reply. -/
theorem dozeAndWake : Obligations.DozeAndWake := by
  refine ⟨?_, ?_, fun s u tag p h hno => execDoze_ill h hno, fun s u tag p h => ?_⟩
  · intro s u tag h hop hlesson hplaces hrunning hring hpass v
    have hholds := fun src => (s.holds_eq_false_iff src).mpr (hplaces src)
    have hmay := (State.mayDoze_iff s).mpr ⟨hlesson, hholds, hrunning, hring, hpass⟩
    have hv : v = { u.replied 0x84 tag .ok [] with
        op := .doze, voice := { u.voice with amp := .inactive, output := 512 } } := by rw [h.voice]
    refine ⟨fun hheld => ?_, fun e rest hheld => ⟨?_, fun hlaw q => Scanner.lowest_held hlaw.1 hheld⟩⟩
    · rw [execDoze_accepted h hop hmay, State.dozeOff_of_up (h.scanner ▸ hheld)]
      rw [hv]
      rfl
    · rw [execDoze_accepted h hop hmay, State.dozeOff_of_down (h.scanner ▸ hheld), hv, ← hheld, ← h.scanner]
      rfl
  · intro s u tag h hno
    refine execDoze_refused h (hno.imp_right fun hno => ?_)
    rw [← Bool.not_eq_true, State.mayDoze_iff]
    rintro ⟨hlesson, hholds, hrunning, hring, hpass⟩
    rcases hno with hcurrent | ⟨src, hsrc⟩ | hruns | hevents | hheld
    · exact absurd (hcurrent.symm.trans hlesson) nofun
    · exact absurd (hsrc.symm.trans (hholds src)) nofun
    · exact hruns hrunning
    · exact hevents hring
    · exact absurd (hheld.symm.trans hpass) nofun
  · rw [execWake_eq, State.takeFrame_of_takes h, Option.elim_some, State.wakeRow, h.op]
    rfl

end Sys2Proof.Machine
end
section
/-! PROOFS. The operating state moves at seven events alone (O11; 10 R164). Every other row is a chain of operations that leave
it, which one equation for each says; the rows that may move it get one lemma each. -/

namespace Sys2Proof.Machine

/-! ### Operations that leave the operating state -/

/-- What an operation makes of the operating state, read off what it makes of the word cycle's values. -/
theorem State.op_of_wordView {t : State} {v : WordView} (e : t.wordView = v) : t.op = v.op := congrArg WordView.op e

namespace State

variable (s : State)

@[simp] theorem offer_op (e : KeyEvent) : (s.offer e).op = s.op := op_of_wordView (s.wordView_offer e)

@[simp] theorem hearRequest_op : s.hearRequest.op = s.op := op_of_wordView s.wordView_hearRequest

@[simp] theorem hint_op : s.hint.op = s.op := op_of_wordView s.wordView_hint

@[simp] theorem guidedRefusal_op : s.guidedRefusal.op = s.op := op_of_wordView s.wordView_guidedRefusal

@[simp] theorem rubout_op : s.rubout.op = s.op := op_of_wordView s.wordView_rubout

@[simp] theorem judged_op (v : Judgement) : (s.judged v).op = s.op := op_of_wordView (s.wordView_judged v)

@[simp] theorem judgingBegin_op : s.judgingBegin.op = s.op := op_of_wordView s.wordView_judgingBegin

@[simp] theorem wordBegin_op (i : Nat) : (s.wordBegin i).op = s.op := op_of_wordView (s.wordView_wordBegin i)

@[simp] theorem lessonFinish_op : s.lessonFinish.op = s.op := op_of_wordView s.wordView_lessonFinish

@[simp] theorem startLesson_op (i : Nat) : (s.startLesson i).op = s.op := op_of_wordView (s.wordView_startLesson i)

@[simp] theorem gotoWord_op (i : Nat) : (s.gotoWord i).op = s.op := op_of_wordView (s.wordView_gotoWord i)

@[simp] theorem stopLesson_op : s.stopLesson.op = s.op := op_of_wordView s.wordView_stopLesson

@[simp] theorem receive_op (b : Byte) : (s.receive b).op = s.op := op_of_wordView (s.wordView_receive b)

@[simp] theorem transmitted_op (f : OutFrame) : (s.transmitted f).op = s.op := op_of_wordView (s.wordView_transmitted f)

@[simp] theorem reach_op (i : Nat) (previous : Option ItemClass) (items : List Item) :
    (s.reach i previous items).1.op = s.op :=
  op_of_wordView (s.wordView_reach i previous items)

@[simp] theorem giveSample_op (r : Running) : (s.giveSample r).op = s.op := op_of_wordView (s.wordView_giveSample r)

@[simp] theorem flushHost_op : s.flushHost.op = s.op := op_of_wordView s.wordView_flushHost

@[simp] theorem placeCue_op : s.placeCue.op = s.op := op_of_wordView s.wordView_placeCue

@[simp] theorem letterAppended_op (sym : Nat) : (s.letterAppended sym).op = s.op :=
  (s.letterAppended_spec sym).1.2.2 .op (by simp)

@[simp] theorem submit_op : s.submit.op = s.op := by
  unfold submit
  split
  · exact s.hearRequest_op
  · exact s.judgingBegin_op

@[simp] theorem letterTyped_op (sym : Nat) : (s.letterTyped sym).op = s.op := by
  unfold letterTyped
  split
  · exact letterAppended_op _ sym
  · split <;> rfl

@[simp] theorem advance_op : s.advance.op = s.op := by
  unfold advance
  split
  · exact s.wordBegin_op _
  · exact s.lessonFinish_op

@[simp] theorem feedbackEnded_op : s.feedbackEnded.op = s.op := by
  have hsettled : (if s.intake.settings.endHold then s.putCycle { s.cycle with phase := .held } else s.advance).op = s.op := by
    split
    · rfl
    · exact s.advance_op
  unfold feedbackEnded
  cases s.currentResult.state with
  | opened => exact cueLoad_op _ 0
  | exact => exact hsettled
  | missed => exact hsettled
  | unseen => rfl
  | skipped => rfl

@[simp] theorem endRunning_op (u : Utterance) (e : EndKind) : (s.endRunning u e).op = s.op := by
  unfold endRunning reportEnd lessonEndReport
  split
  · split
    · exact s.vacate.feedbackEnded_op
    · rfl
  · split <;> rfl

@[simp] theorem playFrom_op (u : Utterance) (i : Nat) (previous : Option ItemClass) :
    (s.playFrom u i previous).op = s.op := by
  have hreach := s.reach_op i previous (u.items.drop i)
  unfold playFrom
  split
  · next t c e => exact (congrArg (·.1.op) e).symm.trans hreach
  · next t e => exact (t.endRunning_op u .done).trans ((congrArg (·.1.op) e).symm.trans hreach)

@[simp] theorem promptStarted_op : s.promptStarted.op = s.op := by
  unfold promptStarted
  split
  · exact cueLoad_op _ 0
  · rfl

@[simp] theorem startReports_op (u : Utterance) (fromPending : Bool) : (s.startReports u fromPending).op = s.op := by
  unfold startReports
  extract_lets a
  have ha : a.op = s.op := by
    unfold a
    split
    · exact s.promptStarted_op
    · rfl
  split <;> exact ha

@[simp] theorem startFrom_op (src : Source) : (s.startFrom src).op = s.op := by
  unfold startFrom
  split
  · rfl
  · simp [enterRunning]

@[simp] theorem nextStage_op (r : Running) : (s.nextStage r).op = s.op := by
  unfold nextStage
  split
  · split
    · rfl
    · exact s.playFrom_op _ _ _
  · exact s.playFrom_op _ _ _
  · exact s.playFrom_op _ _ _

@[simp] theorem fadeOver_op (u : Utterance) (k : FadeKind) : (s.fadeOver u k).op = s.op := by
  cases k with
  | restore => rfl
  | discardCut => exact s.endRunning_op u .cut
  | discardStopped => exact s.endRunning_op u .stopped

@[simp] theorem expire_op : s.expire.op = s.op := by
  unfold expire
  split
  · exact (cueLoad_op _ _).trans s.placeCue_op
  · exact cueStop_op _

end State

/-! ### Rows that leave it -/

/-- The rows of 10 R164's events. -/
def MovesOp : Instr → Prop
  | .bankCheckComplete | .doze .. | .wakingPress | .wake .. | .pinReset | .resetnRelease | .reset .. => True
  | _ => False

namespace LeavesOp

variable {s : State}

theorem check {cond : Bool} {r : ResultCode} {k : Answer} (hk : k.state.op = s.op) : (s.check cond r k).state.op = s.op :=
  State.check_keeps (P := (·.op = s.op)) rfl fun _ => hk

theorem lessonSetting {sizeOk valuesOk : Bool} {k : Answer} (hk : k.state.op = s.op) :
    (s.lessonSetting sizeOk valuesOk k).state.op = s.op :=
  check (check (check (check hk)))

theorem readyBare {p : List Byte} {k : Answer} (hk : k.state.op = s.op) : (s.readyBare p k).state.op = s.op :=
  check (check hk)

theorem lessonCommand {p : List Byte} {n : Nat} {lessonOk : Bool} {k : Answer} (hk : k.state.op = s.op) :
    (s.lessonCommand p n lessonOk k).state.op = s.op :=
  check (check (check hk))

theorem sayChecks {p : List Byte} {room : Bool} {r : ResultCode} {k : Answer} (hk : k.state.op = s.op) :
    (s.sayChecks p room r k).state.op = s.op :=
  check (check (check (check hk)))

/-- A command leaves the operating state when its owner does. -/
theorem command {k tag : Byte} {p : List Byte} {owner : State → Answer} (ho : ∀ u, (owner u).state.op = u.op) :
    After (·.op = s.op) (s.command k tag p owner) :=
  After.command (P := (·.op = s.op)) (fun _ _ hu => hu) rfl fun u hu => (ho u).trans hu

theorem releaseCommand {target : Nat} {tag : Byte} {p : List Byte} {owner : State → Answer}
    (ho : ∀ u, (owner u).state.op = u.op) : After (·.op = s.op) (s.releaseCommand target tag p owner) := by
  unfold State.releaseCommand
  split
  · exact command fun u => check (check (check (ho u)))
  · exact .next rfl

/-- An event leaves the operating state when its change does. -/
theorem occurs {cond : Bool} {f : State → State} (hf : (f s).op = s.op) : After (·.op = s.op) (s.occurs cond f) :=
  After.occurs (P := (·.op = s.op)) rfl fun _ => hf

theorem execTakePass (s : State) : After (·.op = s.op) (execTakePass s) := by
  refine occurs ?_
  split
  · rfl
  · dsimp only
    split <;> rfl

theorem execTakeLetter (s : State) : After (·.op = s.op) (execTakeLetter s) := by
  refine occurs ?_
  split
  · rfl
  · dsimp only
    split
    · exact s.popHead.letterTyped_op _
    · exact s.popHead.guidedRefusal_op

theorem execTakeSpace (s : State) : After (·.op = s.op) (execTakeSpace s) := by
  refine occurs ?_
  split
  · exact s.popHead.submit_op
  · rfl

theorem execJudgingComplete (s : State) : After (·.op = s.op) (execJudgingComplete s) := by
  refine occurs ?_
  split
  · rfl
  · exact State.judged_op _ _

theorem execUtteranceStart (s : State) : After (·.op = s.op) (execUtteranceStart s) := by
  refine occurs ?_
  split
  · rfl
  · exact s.startFrom_op _

theorem execStageEnd (s : State) : After (·.op = s.op) (execStageEnd s) := by
  refine occurs ?_
  split
  · rfl
  · exact s.nextStage_op _

theorem execFadeEnd (s : State) : After (·.op = s.op) (execFadeEnd s) := by
  refine occurs ?_
  split
  · rfl
  · split
    · rfl
    · exact s.fadeOver_op _ _

theorem execSamplePeriod (s : State) : After (·.op = s.op) (execSamplePeriod s) := by
  refine occurs ?_
  split
  · rfl
  · exact s.giveSample_op _

theorem execTransmitComplete (s : State) : After (·.op = s.op) (execTransmitComplete s) := by
  refine occurs ?_
  split
  · rfl
  · exact s.transmitted_op _

theorem execUnknownCommand (s : State) (k tag : Byte) (p : List Byte) :
    After (·.op = s.op) (execUnknownCommand k tag p s) := by
  unfold Machine.execUnknownCommand
  split
  · exact .next rfl
  · exact command fun _ => rfl

/-- BEGIN waits for the bank check's completion, and moves nothing itself (10 R165). -/
theorem execBegin (s : State) (tag : Byte) (p : List Byte) : After (·.op = s.op) (execBegin tag p s) := by
  unfold Machine.execBegin
  split
  · exact .next rfl
  · next u hu =>
    have hop : u.op = s.op := State.takeFrame_keeps (P := (·.op = s.op)) (fun _ _ h => h) rfl hu
    split
    · exact .next hop
    · split <;> exact .next hop

/-- The change of a key makes an event or none (01 R5, R6). -/
theorem scannerEvent (s : State) (k : Scanner) (makes : Bool) (e : KeyEvent) :
    (if makes then (s.putScanner k).offer e else s.putScanner k).op = s.op := by
  split
  · exact State.offer_op _ e
  · rfl

theorem exec {c : Instr} (hc : ¬MovesOp c) (s : State) : After (·.op = s.op) (exec c s) := by
  unfold Machine.exec
  cases c with
  | pinReset | resetnRelease | wakingPress | bankCheckComplete | reset | doze | wake => exact absurd trivial hc
  | scan | discardHead | cueDecrement | ampHoldEnd | interByteTimeout | transmitBegin => exact occurs rfl
  | pressIntervalComplete | releaseIntervalComplete => exact occurs (scannerEvent s _ _ _)
  | takePass => exact execTakePass s
  | takeLetter => exact execTakeLetter s
  | takeRubout => exact occurs ((State.cueLoad_op _ _).trans s.popHead.rubout_op)
  | takeGo => exact occurs s.popHead.submit_op
  | takeSpace => exact execTakeSpace s
  | takeHear => exact occurs s.popHead.hearRequest_op
  | takeHint => exact occurs s.popHead.hint_op
  | judgingComplete => exact execJudgingComplete s
  | utteranceStart => exact execUtteranceStart s
  | stageEnd => exact execStageEnd s
  | fadeEnd => exact execFadeEnd s
  | cueExpiry => exact occurs s.expire_op
  | frameReceived | receivedByte => exact occurs (s.receive_op _)
  | transmitComplete => exact execTransmitComplete s
  | samplePeriod => exact execSamplePeriod s
  | unknownCommand kind tag payload => exact execUnknownCommand s kind tag payload
  | begin tag payload => exact execBegin s tag payload
  | status | setPhrases => exact command fun _ => check rfl
  | setVoice => exact command fun _ => check (check rfl)
  | setKeys | getResults | setWindow => exact command fun _ => check (check (check rfl))
  | setIntake | setLetters | setPairs | setCue | setJudge => exact command fun _ => lessonSetting rfl
  | setSources => exact command fun _ => lessonSetting (State.cutInTest_op _)
  | loadWords => exact command fun _ => check (check (check (check (check rfl))))
  | clearWords => exact command fun _ => readyBare (check rfl)
  | start => exact command fun u => lessonCommand (check (u.startLesson_op _))
  | pause => exact command fun _ => lessonCommand rfl
  | resume => exact command fun _ => lessonCommand (State.cutInTest_op _)
  | stop => exact command fun u => lessonCommand u.stopLesson_op
  | goto => exact command fun u => lessonCommand (check (u.gotoWord_op _))
  | releaseLetter | releasePass => exact releaseCommand fun _ => check rfl
  | releaseWord => exact releaseCommand fun u => check u.advance_op
  | getAttempt | getTally | cut => exact command fun _ => readyBare rfl
  | say | sayNow => exact command fun u => sayChecks (u.arrive_op _)
  | flush => exact command fun u => readyBare u.flushHost_op

end LeavesOp

/-! ### Rows that may move it (10 R164) -/

/-- A row that moves the operating state took its frame, and the frame's leaving moved nothing. -/
theorem taken_of_moved {o : Host.Outcome State Fault Refusal} {s t : State} {f : HostFrame} {act : State → State}
    (he : o = .next ((s.takeFrame f).elim s act)) (hstep : o = .next t) (hmoved : t.op ≠ s.op) :
    ∃ u, u.op = s.op ∧ t = act u := by
  obtain rfl : (s.takeFrame f).elim s act = t := Host.Outcome.next.inj (he.symm.trans hstep)
  cases htake : s.takeFrame f with
  | none =>
    rw [htake] at hmoved
    exact absurd rfl hmoved
  | some u => exact ⟨u, State.takeFrame_keeps (P := (·.op = s.op)) (fun _ _ h => h) rfl htake, rfl⟩

theorem State.resetRow_op (u : State) (tag : Byte) (p : List Byte) :
    (u.resetRow tag p).op = u.op ∨ (u.resetRow tag p).op = .setup := by
  unfold State.resetRow
  split
  · exact .inr rfl
  · exact .inl rfl

/-- Accepted with a key down, DOZE ends in READY, where it began (log 20). -/
theorem State.dozeRow_op (u : State) (tag : Byte) (p : List Byte) :
    (u.dozeRow tag p).op = u.op ∨ (u.op = .ready ∧ (u.dozeRow tag p).op = .doze) := by
  unfold State.dozeRow
  split
  · exact .inl rfl
  · next hop =>
    rw [ne_eq, not_not] at hop
    split
    · exact .inl rfl
    · split
      · cases hheld : u.scanner.held with
        | nil =>
          rw [State.dozeOff_of_up (s := u.replied _ _ _ _) hheld]
          exact .inr ⟨hop, rfl⟩
        | cons e rest =>
          rw [State.dozeOff_of_down (s := u.replied _ _ _ _) hheld]
          exact .inl hop.symm
      · exact .inl rfl

theorem State.wakeRow_op (u : State) (tag : Byte) (p : List Byte) :
    (u.wakeRow tag p).op = u.op ∨ (u.op = .doze ∧ (u.wakeRow tag p).op = .ready) := by
  unfold State.wakeRow
  split
  · exact .inl rfl
  · next hop =>
    split
    · exact .inl rfl
    · exact .inr ⟨not_not.mp hop, rfl⟩

theorem State.bankChecked_op (t : State) (tag : Byte) : (t.bankChecked tag).op = t.op ∨ (t.bankChecked tag).op = .ready := by
  unfold State.bankChecked
  split
  · exact .inl rfl
  · exact .inr rfl

/-- A BEGIN waits in SETUP alone, so its check ends there (10 R165). -/
theorem bankCheck_moves {s t : State} (hlaw : OutboxLaw s) (hstep : exec .bankCheckComplete s = .next t)
    (hmoved : t.op ≠ s.op) : s.op = .setup ∧ t.op = .ready := by
  obtain ⟨-, -, -, -, hsetup⟩ := hlaw
  rcases State.occurs_cases (show execBankCheckComplete s = .next t from hstep) with ⟨hl, hbegun, -⟩ | ⟨-, rfl⟩
  · obtain ⟨tag, htag⟩ := Option.isSome_iff_exists.mp hbegun
    rw [execBankCheckComplete_of hl htag] at hstep
    cases hstep
    exact ⟨hsetup hbegun, (State.bankChecked_op _ tag).resolve_left hmoved⟩
  · exact absurd rfl hmoved

theorem resetnRelease_moves {s t : State} (hstep : exec .resetnRelease s = .next t) (hmoved : t.op ≠ s.op) :
    t.op = .setup := by
  cases hreset : s.resetLow with
  | true =>
    rw [execResetnRelease_low hreset] at hstep
    cases hstep
    rfl
  | false =>
    rw [execResetnRelease_high hreset] at hstep
    cases hstep
    exact absurd rfl hmoved

theorem wakingPress_moves {s t : State} (hstep : exec .wakingPress s = .next t) (hmoved : t.op ≠ s.op) :
    s.op = .doze ∧ t.op = .ready := by
  rcases State.occurs_cases (show execWakingPress s = .next t from hstep) with ⟨-, hcond, rfl⟩ | ⟨-, rfl⟩
  · exact ⟨of_decide_eq_true (Bool.and_eq_true_iff.mp hcond).1, rfl⟩
  · exact absurd rfl hmoved

theorem reset_moves {tag : Byte} {p : List Byte} {s t : State} (hstep : exec (.reset tag p) s = .next t)
    (hmoved : t.op ≠ s.op) : t.op = .setup := by
  obtain ⟨u, hu, rfl⟩ := taken_of_moved (execReset_eq tag p s) hstep hmoved
  exact (u.resetRow_op tag p).resolve_left fun h => hmoved (h.trans hu)

theorem doze_moves {tag : Byte} {p : List Byte} {s t : State} (hstep : exec (.doze tag p) s = .next t)
    (hmoved : t.op ≠ s.op) : s.op = .ready ∧ t.op = .doze := by
  obtain ⟨u, hu, rfl⟩ := taken_of_moved (execDoze_eq tag p s) hstep hmoved
  exact hu ▸ (u.dozeRow_op tag p).resolve_left fun h => hmoved (h.trans hu)

theorem wake_moves {tag : Byte} {p : List Byte} {s t : State} (hstep : exec (.wake tag p) s = .next t)
    (hmoved : t.op ≠ s.op) : s.op = .doze ∧ t.op = .ready := by
  obtain ⟨u, hu, rfl⟩ := taken_of_moved (execWake_eq tag p s) hstep hmoved
  exact hu ▸ (u.wakeRow_op tag p).resolve_left fun h => hmoved (h.trans hu)

/-- Settles O11: a row that is none of the seven leaves the operating state (`LeavesOp.exec`), and each of the seven moves it as
10 R164 says. -/
theorem operatingStateMoves : Obligations.OperatingStateMoves := by
  intro c s t hlaw hstep hmoved
  by_cases hc : MovesOp c
  · cases c with
    | bankCheckComplete => exact .inl ⟨rfl, bankCheck_moves hlaw hstep hmoved⟩
    | doze tag p => exact .inr (.inl ⟨tag, p, rfl, doze_moves hstep hmoved⟩)
    | wakingPress => exact .inr (.inr (.inl ⟨rfl, wakingPress_moves hstep hmoved⟩))
    | wake tag p => exact .inr (.inr (.inr (.inl ⟨tag, p, rfl, wake_moves hstep hmoved⟩)))
    | pinReset =>
      cases hstep
      exact .inr (.inr (.inr (.inr (.inl ⟨rfl, rfl⟩))))
    | resetnRelease => exact .inr (.inr (.inr (.inr (.inr (.inl ⟨rfl, resetnRelease_moves hstep hmoved⟩)))))
    | reset tag p => exact .inr (.inr (.inr (.inr (.inr (.inr ⟨tag, p, rfl, reset_moves hstep hmoved⟩)))))
    | _ => exact hc.elim
  · exact absurd (LeavesOp.exec hc s t hstep) hmoved

end Sys2Proof.Machine
end

section
/-! PROOFS. Frames and rows (O3): which row a frame goes to by its kind code (11 R178), the three RELEASE rows by their targets
(11 R172, R175; log 11), and the layouts of what the part sends (11 R172, R174, R176 to R179; 09 R150, R151). -/

namespace Sys2Proof

/-! ### The RELEASE rows (11 R172, R175; log 11) -/

/-- A row that takes a frame with a target takes it for its own target. -/
theorem releaseTarget_of_fits {n : Nat} {p : List Byte} (hfits : releaseRowFits n p = true)
    (htarget : (releaseTarget p).isSome = true) : releaseTarget p = some n := by
  obtain ⟨m, hm⟩ := Option.isSome_iff_exists.mp htarget
  rw [releaseRowFits, hm] at hfits
  rw [hm, of_decide_eq_true hfits]

theorem releaseRowFits_of_target {n : Nat} {p : List Byte} (h : releaseTarget p = some n) : releaseRowFits n p = true := by
  rw [releaseRowFits, h]
  exact decide_eq_true rfl

/-- The row of target LETTER takes what names neither PASS nor WORD. -/
theorem releaseRowFits_letter {p : List Byte} (hpass : releaseTarget p ≠ some 1) (hword : releaseTarget p ≠ some 2) :
    releaseRowFits 0 p = true := by
  refine Machine.releaseRowFits_of fun target hp hle => ?_
  have hown : releaseTarget p = some target.toNat := by rw [hp]; exact if_pos hle
  rw [hown, Ne, Option.some_inj] at hpass hword
  omega

theorem releaseRow_hostFrame (t : Byte) (p : List Byte) : (releaseRow t p).hostFrame = some (0x27, t, p) := by
  unfold releaseRow
  split <;> rfl

theorem releaseRow_wf (t : Byte) (p : List Byte) : (releaseRow t p).wf = payloadFits p := by
  have hwf : ∀ n, releaseRowFits n p = true → (releaseRowFits n p && payloadFits p) = payloadFits p := fun n hn => by
    rw [hn, Bool.true_and]
  unfold releaseRow
  split
  · next hpass => exact hwf 1 (releaseRowFits_of_target hpass)
  · next hword => exact hwf 2 (releaseRowFits_of_target hword)
  · next hpass hword => exact hwf 0 (releaseRowFits_letter hpass hword)

/-! ### The row of a kind code (11 R178; 09 R156) -/

/-- A kind code of the table other than RELEASE's goes to a row of its own, whatever the tag and the payload. -/
theorem ofFrame_of_plainKind {k : Byte} (hk : k ∈ Config.commandKinds) (hrelease : k ≠ 0x27) (t : Byte) (p : List Byte) :
    (Instr.ofFrame k t p).hostFrame = some (k, t, p) ∧ (Instr.ofFrame k t p).wf = payloadFits p := by
  have hplain : k ∈ Config.commandKinds.erase 0x27 := (List.mem_erase_of_ne hrelease).mpr hk
  fin_cases hplain <;> exact ⟨rfl, rfl⟩

theorem toNat_ne_of_unknownKind {k : Byte} (hk : knownKind k = false) {n : Nat}
    (hn : knownKind (BitVec.ofNat 8 n) = true) : k.toNat ≠ n := by
  rintro rfl
  rw [BitVec.ofNat_toNat, BitVec.setWidth_eq, hk] at hn
  cases hn

/-- Every other kind code goes to UNKNOWN_COMMAND. -/
theorem ofFrame_of_unknownKind {k : Byte} (hk : knownKind k = false) (t : Byte) (p : List Byte) :
    Instr.ofFrame k t p = .unknownCommand k t p := by
  unfold Instr.ofFrame
  split
  case h_31 => rfl
  all_goals next hkind => exact absurd hkind (toNat_ne_of_unknownKind hk (by decide))

/-- The row that takes a frame carries the frame's kind, tag and payload, and is well-formed where the payload fits. -/
theorem ofFrame_hostFrame_wf (k t : Byte) (p : List Byte) :
    (Instr.ofFrame k t p).hostFrame = some (k, t, p) ∧ (Instr.ofFrame k t p).wf = payloadFits p := by
  cases hk : knownKind k with
  | false =>
    rw [ofFrame_of_unknownKind hk]
    exact ⟨rfl, by rw [Instr.wf, hk, Bool.not_false, Bool.true_and]⟩
  | true =>
    by_cases hrelease : k = 0x27
    · subst hrelease
      exact ⟨releaseRow_hostFrame t p, releaseRow_wf t p⟩
    · exact ofFrame_of_plainKind (List.contains_iff_mem.mp hk) hrelease t p

/-- A well-formed row is the row that its own frame goes to; a RELEASE frame has to name a target. -/
theorem ofFrame_of_hostFrame {c : Instr} {k t : Byte} {p : List Byte} (h : c.hostFrame = some (k, t, p)) (hwf : c.wf = true)
    (htarget : k = 0x27 → (releaseTarget p).isSome = true) : Instr.ofFrame k t p = c := by
  cases c with
  | unknownCommand =>
    cases h
    have hunknown : (!knownKind k) = true := (Bool.and_eq_true_iff.mp hwf).1
    exact ofFrame_of_unknownKind (by simpa using hunknown) t p
  | releaseLetter | releasePass | releaseWord =>
    cases h
    have hown := releaseTarget_of_fits (Bool.and_eq_true_iff.mp hwf).1 (htarget rfl)
    show releaseRow t p = _
    simp only [releaseRow, hown]
  | status | begin | reset | doze | wake | setKeys | setIntake | setLetters | setPhrases | setPairs | setSources | setCue
  | setJudge | setVoice | loadWords | clearWords | start | pause | resume | stop | goto | getAttempt | getResults | setWindow
  | getTally | say | sayNow | cut | flush =>
    cases h
    rfl
  | pinReset | resetnRelease | scan | pressIntervalComplete | releaseIntervalComplete | wakingPress | takePass
  | discardHead | takeLetter | takeRubout | takeGo | takeSpace | takeHear | takeHint | judgingComplete | utteranceStart
  | stageEnd | fadeEnd | cueDecrement | cueExpiry | ampHoldEnd | frameReceived | interByteTimeout | transmitBegin
  | transmitComplete | bankCheckComplete | receivedByte | samplePeriod => cases h

end Sys2Proof

namespace Sys2Proof.Machine

/-! ### What the part sends (11 R172 to R179; 09 R150, R151) -/

/-- With no frame in transmission TXD carries nothing (log 21). -/
theorem State.txdFrame_of_idle {s : State} (h : s.link.transmitting = none) : s.txdFrame = [] := by
  rw [State.txdFrame, h]

/-- Settles O3: rows and frames lead back to each other by `ofFrame_of_hostFrame` and `ofFrame_hostFrame_wf`; the layouts and the
codes are the model's tables read entry by entry; CHECK makes the bytes on TXD sum to 0 (`byteSum_frame`). -/
theorem framesAndRowsAgree : Obligations.FramesAndRowsAgree := by
  refine ⟨fun c k t p => ofFrame_of_hostFrame, fun k t p hp => ?fits, fun _ => rfl, fun _ => rfl, fun _ => rfl,
    fun _ _ => rfl, fun _ => rfl, fun _ => rfl, fun _ _ => rfl, fun _ _ _ _ => rfl, fun _ => rfl, fun _ => rfl,
    fun _ _ => rfl, fun _ _ => rfl, fun _ _ => rfl, ?codes, fun s => State.txdFrame_of_idle, fun s f hf => ?sending⟩
  case fits =>
    obtain ⟨hframe, hwf⟩ := ofFrame_hostFrame_wf k t p
    exact ⟨hframe, hwf.trans (decide_eq_true hp)⟩
  case codes =>
    exact ⟨rfl, rfl, rfl, rfl, rfl, rfl, fun _ _ => rfl, rfl, rfl, rfl, rfl, rfl, rfl, rfl, rfl, rfl, rfl, rfl⟩
  case sending => exact ⟨_, State.txdFrame_of_transmitting hf, byteSum_frame f.body⟩

end Sys2Proof.Machine
end

section
/-! PROOFS. A step with a queued command (95, "What each step holds"): the counterpart of `step_of_empty`. -/

namespace Sys2Proof.Machine

/-- The front command leaves the queue before it is carried out, so what it does is told of the state with the queue's rest. -/
theorem step_of_pending {s : State} {c : Instr} {rest : List Instr} (h : s.pending = c :: rest) :
    step s = exec c { s with pending := rest } := by
  rw [step, h]

/-- Settles O1: the branch of `step` for a queue that is not empty (`step_of_pending`). -/
theorem stepRunsFrontCommand : Obligations.StepRunsFrontCommand := fun _ _ _ => step_of_pending

end Sys2Proof.Machine
end
